-- ==== Sys2Proof/Word.lean ====
section
/-! DEFINITION. The byte, the unit of every frame and record (spec/00, Conventions). -/

namespace Sys2Proof

/-- One byte of a frame, a record or a pixel. -/
abbrev Byte := BitVec 8

/-- The byte of a small number; a number above 255 keeps its low eight bits. -/
abbrev byte (n : Nat) : Byte := BitVec.ofNat 8 n

end Sys2Proof
end

