-- ==== Sys2Proof/Syntax.lean ====
section
/-! DEFINITION. The commands: one constructor for each row of spec/opcode_table.json, in the table's
order. The table gives a row no operand fields. A request's operands are the unit and payload of the
frame the request decoder takes from the head of the inbound queue (R159), which is in State; an
operand stands here only where the outside world decides something: the strap levels, what a store
access finds, the samples of a character, and which lane or timer an internal event belongs to. -/

namespace Sys2Proof

/-- The three samples of one bit time, at one quarter, one half and three quarters (R154);
`true` is the line at mark, `false` at space. -/
structure BitSamples where
  quarter : Bool
  half : Bool
  threeQuarters : Bool
  deriving DecidableEq, Repr

/-- The samples of one character: the start bit, the eight data bits with the least significant
first, and the stop bit (R154). -/
abbrev CharacterSamples := Vector BitSamples 10

/-- The levels of the two rate straps (R167); `true` is high. -/
structure Straps where
  strap1 : Bool
  strap0 : Bool
  deriving DecidableEq, Repr

/-- The commands of the part. -/
inductive Instr where
  /-- POWER_ON_RESET (R168, R177), with the straps sampled at its end (R167). -/
  | powerOnReset (straps : Straps)
  /-- PIN_RESET (R177), with the straps sampled at its end (R167). -/
  | pinReset (straps : Straps)
  /-- RECORD_READ (R148): a store read ends. `passes` is whether a record the store holds whole is
  found to pass its check at this read, or has decayed. -/
  | recordRead (passes : Bool)
  /-- SAVE_COMPLETION (R150): a record write ends. `passes` is the read-back check. -/
  | saveCompletion (passes : Bool)
  /-- BREAK (R155). -/
  | breakCharacter
  /-- FRAME_CLOSE (R156, R157): idle closes the frame in reception. -/
  | frameClose
  /-- UNKNOWN_KIND (R159). -/
  | unknownKind
  /-- INQUIRE (R178). -/
  | inquire
  /-- SOFT_RESET (R179): the request. -/
  | softReset
  /-- SOFT_RESET_EVENT (R179): its taking effect. -/
  | softResetEvent
  /-- LINK_SET (R160). -/
  | linkSet
  /-- LINK_CLEAR (R162). -/
  | linkClear
  /-- LINK_STATUS (R162). -/
  | linkStatus
  /-- PROFILE_WRITE (R145). -/
  | profileWrite
  /-- PROFILE_COMMIT (R146). -/
  | profileCommit
  /-- PROFILE_READ (R147). -/
  | profileRead
  /-- PROFILE_SAVE (R149). -/
  | profileSave
  /-- PROFILE_RECALL (R151). -/
  | profileRecall
  /-- JOB_OPEN (R67). -/
  | jobOpen
  /-- JOB_START (R71). -/
  | jobStart
  /-- JOB_PAUSE (R72). -/
  | jobPause
  /-- JOB_RESUME (R73). -/
  | jobResume
  /-- ACCEPT (R124): RESOLVE with action 0. -/
  | accept
  /-- RETRY (R125): RESOLVE with action 1. -/
  | retry
  /-- DEGRADE (R126): RESOLVE with action 2. -/
  | degrade
  /-- DROP (R127): RESOLVE with action 3. -/
  | drop
  /-- CONTINUE (R128): RESOLVE with action 4. -/
  | continueJob
  /-- JOB_ABORT (R76). -/
  | jobAbort
  /-- JOB_CLOSE (R78). -/
  | jobClose
  /-- JOB_STATUS (R81). -/
  | jobStatus
  /-- CLEAR_FLAGS (R80). -/
  | clearFlags
  /-- SET_ENABLES (R79). -/
  | setEnables
  /-- RETIME (R138, R139). -/
  | retime
  /-- PIXELS (R87). -/
  | pixels
  /-- PIXELS_WRITE_COMPLETE (R92). -/
  | pixelsWriteComplete
  /-- GRANT (R103). -/
  | grant
  /-- COLUMN_EVENT (R45): the lane finishes its column. -/
  | columnEvent (lane : Fin 2)
  /-- PACED_EXPIRY (R134) of the job's timer. -/
  | pacedExpiry (job : Fin 8)
  /-- PAGE_EXPIRY (R135) of the job's timer. -/
  | pageExpiry (job : Fin 8)
  /-- TRANSMIT_END (R164): a frame and its trailing idle end. -/
  | transmitEnd
  /-- CHARACTER (R154), with its thirty samples. -/
  | character (samples : CharacterSamples)
  /-- RETURN_TO_MARK (R155). -/
  | returnToMark
  /-- PRESCALED_TICK (R132) of the job's timer. -/
  | prescaledTick (job : Fin 8)
  /-- LOSS_OF_POWER (R148). -/
  | lossOfPower
  deriving DecidableEq, Repr

end Sys2Proof
end

