-- ==== Sys2Proof/Machine/Characters.lean ====
section
/-! DEFINITION. The bits of a sampled character (R154): majority, noise, and what makes a break. -/

namespace Sys2Proof

/-- The value of a bit: the majority of its three samples (R154). -/
def BitSamples.majority (b : BitSamples) : Bool :=
  (b.quarter && b.half) || (b.quarter && b.threeQuarters) || (b.half && b.threeQuarters)

/-- The three samples of the bit do not all agree (R154). -/
def BitSamples.disagrees (b : BitSamples) : Bool :=
  !(b.quarter == b.half && b.half == b.threeQuarters)

/-- A character is a break when its start bit is at space, its stop bit's majority is space and all
eight data bits are zero (R154): every one of its ten bits is at space. -/
def CharacterSamples.isBreak (c : CharacterSamples) : Bool :=
  c.toList.all (fun b => !b.majority)

end Sys2Proof
end

