-- ==== Sys2Proof/WellFormed.lean ====
section
/-! DEFINITION. Well-formed commands. The operand types already bound lanes, jobs and sample counts;
what remains is that the samples of a CHARACTER do not spell a break, which is the row BREAK (R154,
R155). -/

namespace Sys2Proof

/-- The command is written as its own row of the table: a CHARACTER does not spell a break. -/
def Instr.WellFormed : Instr → Bool
  | .character samples => !CharacterSamples.isBreak samples
  | _ => true

end Sys2Proof
end

