-- ==== Sys2Proof/Decode.lean ====
section
/-! DEFINITION. The part decodes no words: no row of spec/opcode_table.json gives bits (its `fields`
are empty and spec/98 counts 44 rows unread), so no word spells a command. -/

namespace Sys2Proof

/-- The command that a word of `nbits` bits spells by the table: none, since the table gives no row
any bits. -/
def decodeTableWord (_nbits _w : Nat) : Option Instr := none

end Sys2Proof
end

