-- ==== Sys2Proof/Config.lean ====
section
/-! DEFINITION. What is fixed for a part: the identity and capacities of spec/00 (Identity) and the
one value the manual leaves to each part, the revision code. -/

namespace Sys2Proof.Config

/-- The revision code INQUIRE reports (R178). The manual gives it no value and applies to every
revision, so it is a constant nothing is known of (log 4). -/
opaque revision : Byte

/-- Vendor code reported by INQUIRE (R178). -/
def vendor : Nat := 0x4F56

/-- Part code reported by INQUIRE (R178; spec/00, Identity). -/
def part : Nat := 6240

/-- Bytes of the output queue (R110). -/
def outputCapacity : Nat := 1048576

/-- The largest budget (R44). -/
def budgetCeiling : Nat := 196608

/-- Frames the inbound queue holds (R158). -/
def inboundCapacity : Nat := 8

/-- Replies the reply queue holds (R163). -/
def replyCapacity : Nat := 16

/-- Record bytes of a full segment (R111, R166). -/
def segmentBytes : Nat := 4093

end Sys2Proof.Config
end

