-- ==== Sys2Proof/Machine/Parts.lean ====
section
/-! DEFINITION. The pieces State is made of: frames, profiles, job contexts, band slots, lanes,
records, the link's parts, each with the values its rule gives it when it is empty or reset. -/

namespace Sys2Proof.Machine

/-! ### Frames (R169) -/

/-- A frame without its length and CRC fields, which its bytes determine (R169). -/
structure Frame where
  kind : Byte
  unit : Byte
  payload : List Byte
  deriving DecidableEq, Repr

/-! ### Conditions and notices (R115, R82) -/

/-- A set of the four conditions: a cause set, a flag set or the halt enables (R62, R115). -/
structure Conditions where
  clipped : Bool := false
  overbudget : Bool := false
  degraded : Bool := false
  late : Bool := false
  deriving DecidableEq, Repr

/-- A subset of the notice kinds STATE and CONDITION (R62, R82). -/
structure NoticeKinds where
  state : Bool := false
  condition : Bool := false
  deriving DecidableEq, Repr

/-! ### Profiles (R141) -/

/-- Rounding mode of a zone (R17). -/
inductive Rounding where
  | nearest
  | soft
  | truncate
  deriving DecidableEq, Repr, Inhabited

/-- The settings a zone chooses (R12, R141). -/
structure ZoneSettings where
  weight : Nat
  ceiling : Nat
  rounding : Rounding
  deriving DecidableEq, Repr, Inhabited

/-- The base steps of one component class, at DC and scales 3, 2 and 1 (R13, R14). -/
structure BaseSteps where
  dc : Nat
  s3 : Nat
  s2 : Nat
  s1 : Nat
  deriving DecidableEq, Repr, Inhabited

/-- A full set of profile settings (R141). -/
structure Profile where
  name : List Byte
  y : BaseSteps
  c : BaseSteps
  brightDetail : ZoneSettings
  brightFlat : ZoneSettings
  skin : ZoneSettings
  shadow : ZoneSettings
  mid : ZoneSettings
  tHi : Nat
  tLo : Nat
  tSpan : Nat
  uLo : Int
  uHi : Int
  vLo : Int
  vHi : Int
  startIndex : Nat
  deriving DecidableEq, Repr, Inhabited

/-- The factory profile of slot 0 (R142). PRESUMED: its name, FACTORY, is held and reported in the ASCII
codes of its letters; the spec gives no code for a name's characters (log 28). -/
def factoryProfile : Profile where
  name := [0x46, 0x41, 0x43, 0x54, 0x4F, 0x52, 0x59]
  y := { dc := 1, s3 := 4, s2 := 6, s1 := 8 }
  c := { dc := 2, s3 := 6, s2 := 10, s1 := 14 }
  brightDetail := { weight := 8, ceiling := 24, rounding := .nearest }
  brightFlat := { weight := 24, ceiling := 63, rounding := .truncate }
  skin := { weight := 12, ceiling := 32, rounding := .nearest }
  shadow := { weight := 20, ceiling := 48, rounding := .soft }
  mid := { weight := 16, ceiling := 63, rounding := .nearest }
  tHi := 200
  tLo := 40
  tSpan := 24
  uLo := -60
  uHi := -5
  vLo := 10
  vHi := 70
  startIndex := 16

/-- State of a profile slot with the settings it holds in DRAFT and READY (R141). -/
inductive ProfileContent where
  | empty
  | draft (p : Profile)
  | ready (p : Profile)
  deriving DecidableEq, Repr

/-- Result of a record write (R148, R150). -/
inductive SaveResult where
  | ok
  | storeFault
  deriving DecidableEq, Repr

/-- One profile slot. Its in-use count and save-in-flight mark are computed from the job contexts
(R143) and the record write in progress (R149). -/
structure ProfileSlot where
  content : ProfileContent
  lastSave : Option SaveResult
  deriving DecidableEq, Repr

/-- One record of the profile store (R148): BLANK, or WRITTEN, holding a name and settings and the
CRC-16 stored with them. It fails its check when that CRC is not the CRC of what it holds. -/
inductive StoreRecord where
  | blank
  | written (contents : Profile) (crc : BitVec 16)
  deriving DecidableEq, Repr

/-- The record write in progress: the slot and the settings handed to the store (R149). -/
structure SaveWrite where
  slot : Fin 8
  contents : Profile
  deriving DecidableEq, Repr

/-- The start-up load in progress: the slot being read and the attempts already failed (R152). -/
structure StartupLoad where
  slot : Fin 8
  attempts : Nat
  deriving DecidableEq, Repr

/-! ### Pace timers (R131) -/

/-- Mode of a pace timer (R131). -/
inductive TimerMode where
  | off
  | paced
  | page
  deriving DecidableEq, Repr

/-- Base ticks in one prescaled tick (R131). -/
inductive Prescale where
  | by1
  | by16
  | by256
  | by4096
  deriving DecidableEq, Repr

/-- A reload with its prescale (R131). -/
structure Interval where
  reload : Nat
  prescale : Prescale
  deriving DecidableEq, Repr

/-- A pace timer (R131), with the base ticks its prescaler has counted since its last restart
(R132). -/
structure Timer where
  mode : TimerMode
  interval : Interval
  count : Nat
  buffered : Option Interval
  running : Bool
  prescaler : Nat
  deriving DecidableEq, Repr

/-- The timer of a FREE context (R66, R131). -/
def idleTimer : Timer where
  mode := .off
  interval := { reload := 1, prescale := .by1 }
  count := 0
  buffered := none
  running := false
  prescaler := 0

/-! ### Job contexts (R62, R63) -/

/-- Why a STOPPING job stops (R62). -/
inductive StopReason where
  | pause
  | halt
  deriving DecidableEq, Repr

/-- State of a context (R62, R65). The stop reason is present in STOPPING alone. -/
inductive JobState where
  | free
  | opened
  | running
  | stopping (reason : StopReason)
  | paused
  | halted
  | done
  deriving DecidableEq, Repr

/-- Number of a pass (R51, R52, R54). -/
inductive Pass where
  | one
  | two
  | three
  deriving DecidableEq, Repr

/-- The withheld band of a halted job (R63, R107). -/
structure Withheld where
  slot : Fin 24
  band : Nat
  pass : Pass
  complete : Bool
  fits : Bool
  stored : Nat
  startIndex : Nat
  clippedMark : Bool
  deriving DecidableEq, Repr

/-- Output queue space held for a job: its size, B + 16 at the grant, and the bytes written in its
payload area from position 0 (R31, R34, R103). -/
structure Reservation where
  size : Nat
  area : List Byte
  deriving DecidableEq, Repr

/-- A job context (R62, R63). The coding band is the pass of the lane that codes it (R100). -/
structure Job where
  state : JobState
  profile : Option (Fin 8)
  width : Nat
  height : Nat
  columns : Nat
  bands : Nat
  budget : Nat
  index : Nat
  nextPass : Pass
  priority : Nat
  tag : BitVec 12
  mask : BitVec 12
  halts : Conditions
  causes : Conditions
  flags : Conditions
  noticeLevel : Nat
  noticeKinds : NoticeKinds
  noticePending : NoticeKinds
  timer : Timer
  loaded : Nat
  emitted : Nat
  due : Nat
  loading : Option (Fin 24)
  ready : List (Fin 24)
  withheld : Option Withheld
  reservation : Option Reservation
  deriving DecidableEq, Repr

/-- A FREE context (R66). -/
def freeJob : Job where
  state := .free
  profile := none
  width := 0
  height := 0
  columns := 0
  bands := 0
  budget := 0
  index := 0
  nextPass := .one
  priority := 0
  tag := 0
  mask := 0
  halts := {}
  causes := {}
  flags := {}
  noticeLevel := 0
  noticeKinds := {}
  noticePending := {}
  timer := idleTimer
  loaded := 0
  emitted := 0
  due := 0
  loading := none
  ready := []
  withheld := none
  reservation := none

/-! ### Strip store (R83) -/

/-- One pixel (R86). -/
structure Rgb where
  r : Byte
  g : Byte
  b : Byte
  deriving DecidableEq, Repr

/-- A set of job numbers: bit n for job n (R83, R173). -/
abbrev JobSet := BitVec 8

/-- A band slot that is FILLING (`full = false`) or FULL (R83). A row holds the pixels received so
far, so its received count is its length. A FREE slot holds no band: it is `none` in State. -/
structure BandSlot where
  full : Bool
  tag : BitVec 12
  band : Nat
  width : Nat
  rowsNeeded : Nat
  rows : List (List Rgb)
  refs : JobSet
  deriving DecidableEq, Repr

/-! ### Lanes (R100) -/

/-- The DC predictors (R27). -/
structure Predictors where
  y : Int := 0
  u : Int := 0
  v : Int := 0
  deriving DecidableEq, Repr

/-- The pass state of a BUSY lane (R100). -/
structure PassState where
  job : Fin 8
  slot : Fin 24
  band : Nat
  pass : Pass
  column : Nat
  startIndex : Nat
  runningIndex : Nat
  bitCount : Nat
  predictors : Predictors
  currentByte : List Bool
  stored : Nat
  clippedMark : Bool
  overMark : Bool
  deriving DecidableEq, Repr

/-! ### Output queue (R110) -/

/-- A committed record not yet wholly sent (R110). -/
structure OutRecord where
  job : Fin 8
  bytes : List Byte
  sent : Nat
  deriving DecidableEq, Repr

/-! ### Link (R154 to R168) -/

/-- What the receiver waits for between characters (R154, R155, R168). -/
inductive ReceiverMode where
  /-- For a start bit. -/
  | waiting
  /-- For the line to return to mark, after a framing error. -/
  | awaitMark
  /-- For one character time of mark, after a break or a reception a soft reset discarded. -/
  | awaitIdle
  deriving DecidableEq, Repr

/-- The frame being received (R156). -/
structure Reception where
  bytes : List Byte
  framingError : Bool
  noisy : Bool
  deriving DecidableEq, Repr

/-- The four totals (R159). -/
structure Totals where
  bad : Nat := 0
  noisy : Nat := 0
  overrun : Nat := 0
  breaks : Nat := 0
  deriving DecidableEq, Repr

/-- The device notice pending set (R165). -/
structure DeviceMarks where
  startup : Bool := false
  linkQuiet : Bool := false
  saveDone : Bool := false
  deriving DecidableEq, Repr

/-- The reset cause (R177). -/
inductive ResetCause where
  | power
  | pin
  | request
  deriving DecidableEq, Repr

/-- The PIXELS write in progress: the frame's unit, the slot, and the pixels for a row (R92). -/
structure PixelWrite where
  unit : Byte
  slot : Fin 24
  row : Nat
  pixels : List Rgb
  deriving DecidableEq, Repr

/-- What the request decoder has in hand (R92, R151, R179). -/
inductive InHand where
  | nothing
  /-- An accepted PIXELS frame whose write is in progress. -/
  | pixels (w : PixelWrite)
  /-- A RECALL of the slot, with the attempts that have failed. -/
  | recall (slot : Fin 8) (attempts : Nat)
  /-- An accepted SOFT RESET awaiting its event. -/
  | softReset
  deriving DecidableEq, Repr

/-- What the frame in transmission is (R163, R164, R166). -/
inductive Sending where
  | reply
  | notice
  /-- A segment carrying this many record bytes. -/
  | segment (bytes : Nat)
  deriving DecidableEq, Repr

/-- The frame in transmission (R164). -/
structure Transmission where
  sending : Sending
  frame : Frame
  deriving DecidableEq, Repr

end Sys2Proof.Machine
end

