-- ==== Sys2Proof/Machine/Bytes.lean ====
section
/-! DEFINITION. Byte order and the frame envelope: little-endian fields (spec/00, R169), the CRC-16
(R157), the bytes of a frame and the bits of its characters. -/

namespace Sys2Proof.Machine

/-- The low `width` bytes of a number, least significant first (R169). -/
def leBytes : (width : Nat) → Nat → List Byte
  | 0, _ => []
  | width + 1, n => byte n :: leBytes width (n / 256)

/-- The number a little-endian field holds (R169). -/
def leNat : List Byte → Nat
  | [] => 0
  | b :: rest => b.toNat + 256 * leNat rest

/-- The little-endian field of `width` bytes at offset `at` of a payload (R169). -/
def field (payload : List Byte) (offset width : Nat) : Nat :=
  leNat ((payload.drop offset).take width)

/-- A 16-bit signed field in two's complement (R169). -/
def signedField (payload : List Byte) (offset : Nat) : Int :=
  (BitVec.ofNat 16 (field payload offset 2)).toInt

/-- The two bytes of a signed value (R169). -/
def signedBytes (v : Int) : List Byte :=
  leBytes 2 (BitVec.ofInt 16 v).toNat

/-- A byte from eight flags, bit 0 first; flags beyond the list are 0 (R169, R175). -/
def flagByte : List Bool → Byte
  | [] => 0
  | b :: rest => (flagByte rest <<< 1) ||| (BitVec.ofBool b).zeroExtend 8

/-- One step of the CRC register, polynomial x^16 + x^12 + x^5 + 1 (R157). -/
def crcBit (r : BitVec 16) : BitVec 16 :=
  if r.msb then (r <<< 1) ^^^ 0x1021 else r <<< 1

/-- One byte into the CRC, most significant bit first (R157). -/
def crcByte (r : BitVec 16) (b : Byte) : BitVec 16 :=
  Nat.repeat crcBit 8 (r ^^^ (b.zeroExtend 16 <<< 8))

/-- The CRC-16 of R157 and R148: initial value 0xFFFF, no final inversion. -/
def crc16 (bytes : List Byte) : BitVec 16 :=
  bytes.foldl crcByte 0xFFFF

/-- The kind, unit, length and payload of a frame, which its CRC covers (R169). -/
def Frame.body (f : Frame) : List Byte :=
  f.kind :: f.unit :: (leBytes 2 f.payload.length ++ f.payload)

/-- The bytes of a frame on the link (R157, R169): the CRC's least significant byte goes first. -/
def Frame.bytes (f : Frame) : List Byte :=
  f.body ++ leBytes 2 (crc16 f.body).toNat

/-- The eight data bits of a character, least significant first (R154, R164). -/
def dataBits (b : Byte) : List Bool := (List.finRange 8).map fun i => b.getLsbD i.val

/-- The ten bits of a sent character (R154, R164): a start bit at space, the data bits, a stop bit at
mark. Mark is `true`. -/
def characterBits (b : Byte) : List Bool := false :: (dataBits b ++ [true])

/-- The bits of a frame as it is sent, one bit time each: its characters back to back (R164). -/
def Frame.lineBits (f : Frame) : List Bool := f.bytes.flatMap characterBits

/-- The largest frame, in bytes (R156). -/
def maxFrameBytes : Nat := 4102

/-- The largest payload, in bytes (R157, R169). -/
def maxPayloadBytes : Nat := 4096

/-- The frame that received bytes make at their close, or none for a bad frame (R157): fewer than 6
bytes, oversize, a length field that is out of range or does not match, or a CRC that differs. -/
def frameOfBytes (bytes : List Byte) : Option Frame :=
  let covered := bytes.dropLast.dropLast
  if bytes.length < 6 then none
  else if maxFrameBytes < bytes.length then none
  else if maxPayloadBytes < field bytes 2 2 then none
  else if field bytes 2 2 ≠ bytes.length - 6 then none
  else if leBytes 2 (crc16 covered).toNat ≠ bytes.drop (bytes.length - 2) then none
  else some
    { kind := bytes.getD 0 0
      unit := bytes.getD 1 0
      payload := covered.drop 4 }

end Sys2Proof.Machine
end

