-- ==== Sys2Proof/Machine/Flags.lean ====
section
/-! DEFINITION. Condition sets, notice marks and the two changes that set them: a change of job state
and the raising of a condition (R82, R115, R116). -/

namespace Sys2Proof.Machine

/-- The four conditions (R115). -/
inductive Condition where
  | clipped
  | overbudget
  | degraded
  | late
  deriving DecidableEq, Repr

/-- The condition is a member of the set. -/
def Conditions.has (c : Conditions) : Condition → Bool
  | .clipped => c.clipped
  | .overbudget => c.overbudget
  | .degraded => c.degraded
  | .late => c.late

/-- The set with one more member; a member already present leaves it as it was (R116). -/
def Conditions.add (c : Conditions) : Condition → Conditions
  | .clipped => { c with clipped := true }
  | .overbudget => { c with overbudget := true }
  | .degraded => { c with degraded := true }
  | .late => { c with late := true }

/-- The two sets share a condition: some cause has its halt enabled (R118). -/
def Conditions.meets (a b : Conditions) : Bool :=
  (a.clipped && b.clipped) || (a.overbudget && b.overbudget) ||
    (a.degraded && b.degraded) || (a.late && b.late)

/-- The set is not empty. -/
def Conditions.nonempty (c : Conditions) : Bool :=
  c.clipped || c.overbudget || c.degraded || c.late

/-- A set of conditions as its byte (R169). -/
def Conditions.toByte (c : Conditions) : Byte :=
  flagByte [c.clipped, c.overbudget, c.degraded, c.late]

/-- A set of conditions from its byte; further bits are ignored (R169). -/
def conditionsOfByte (b : Byte) : Conditions where
  clipped := b.getLsbD 0
  overbudget := b.getLsbD 1
  degraded := b.getLsbD 2
  late := b.getLsbD 3

/-- A set of notice kinds as its byte (R169). -/
def NoticeKinds.toByte (k : NoticeKinds) : Byte :=
  flagByte [k.state, k.condition]

/-- A set of notice kinds from its byte; further bits are ignored (R169). -/
def noticeKindsOfByte (b : Byte) : NoticeKinds where
  state := b.getLsbD 0
  condition := b.getLsbD 1

/-- The set of notice kinds is not empty. -/
def NoticeKinds.nonempty (k : NoticeKinds) : Bool :=
  k.state || k.condition

/-- The kinds both sets hold. -/
def NoticeKinds.inter (a b : NoticeKinds) : NoticeKinds where
  state := a.state && b.state
  condition := a.condition && b.condition

/-- Sets the STATE mark when the job's notice level and kinds allow it (R82). -/
def Job.markState (j : Job) : Job :=
  if j.noticeLevel ≠ 0 ∧ j.noticeKinds.state then
    { j with noticePending := { j.noticePending with state := true } }
  else j

/-- Sets the CONDITION mark when the job's notice level and kinds allow it (R82). -/
def Job.markCondition (j : Job) : Job :=
  if j.noticeLevel ≠ 0 ∧ j.noticeKinds.condition then
    { j with noticePending := { j.noticePending with condition := true } }
  else j

/-- The job takes a state other than FREE. A change of state, or of the stop reason of a STOPPING
job, sets the STATE mark; a request that leaves the state as it was sets none (R82). -/
def Job.enter (j : Job) (st : JobState) : Job :=
  if j.state = st then j else { j with state := st }.markState

/-- Raising a condition: into the cause set and the flag set, and the CONDITION mark (R116). -/
def Job.raise (j : Job) (c : Condition) : Job :=
  { j with causes := j.causes.add c, flags := j.flags.add c }.markCondition

end Sys2Proof.Machine
end

