-- ==== Sys2Proof/Machine/Operands.lean ====
section
/-! DEFINITION. The operand forms of the requests: kind codes, payload lengths, selectors and payload
layouts, and the codes the part answers with (R169 to R176). -/

namespace Sys2Proof.Machine

/-! ### Kinds and lengths (R169, R174) -/

def kindInquire : Byte := 0x01
def kindSoftReset : Byte := 0x02
def kindLinkSet : Byte := 0x03
def kindLinkClear : Byte := 0x04
def kindLinkStatus : Byte := 0x05
def kindProfileWrite : Byte := 0x10
def kindProfileCommit : Byte := 0x11
def kindProfileRead : Byte := 0x12
def kindProfileSave : Byte := 0x13
def kindProfileRecall : Byte := 0x14
def kindJobOpen : Byte := 0x20
def kindJobStart : Byte := 0x21
def kindJobPause : Byte := 0x22
def kindJobResume : Byte := 0x23
def kindJobResolve : Byte := 0x24
def kindJobAbort : Byte := 0x25
def kindJobClose : Byte := 0x26
def kindJobStatus : Byte := 0x27
def kindClearFlags : Byte := 0x28
def kindSetEnables : Byte := 0x29
def kindRetime : Byte := 0x2A
def kindPixels : Byte := 0x30
def kindReply : Byte := 0x80
def kindNotice : Byte := 0x81
def kindOutput : Byte := 0x82

/-- The kind codes that name a request (R169). REPLY, NOTICE and OUTPUT name none (R159). -/
def requestKinds : List Byte :=
  [kindInquire, kindSoftReset, kindLinkSet, kindLinkClear, kindLinkStatus, kindProfileWrite,
   kindProfileCommit, kindProfileRead, kindProfileSave, kindProfileRecall, kindJobOpen, kindJobStart,
   kindJobPause, kindJobResume, kindJobResolve, kindJobAbort, kindJobClose, kindJobStatus,
   kindClearFlags, kindSetEnables, kindRetime, kindPixels]

/-! ### Reply codes (R172) -/

/-- The reply codes (R172). -/
inductive ReplyCode where
  | ok
  | clamped
  | unknownKind
  | badLength
  | badField
  | noJob
  | wrongState
  | linkQuiet
  | profileEmpty
  | profileNotReady
  | profileInUse
  | protectedSlot
  | busy
  | geometryClash
  | noTarget
  | bandMismatch
  | setChanged
  | credit
  | noSlot
  | rowOrder
  | rowOverflow
  | notComplete
  | storeFault
  deriving DecidableEq, Repr

/-- The value of a reply code (R172). -/
def ReplyCode.value : ReplyCode → Byte
  | .ok => 0x00
  | .clamped => 0x01
  | .unknownKind => 0x10
  | .badLength => 0x11
  | .badField => 0x12
  | .noJob => 0x13
  | .wrongState => 0x14
  | .linkQuiet => 0x15
  | .profileEmpty => 0x16
  | .profileNotReady => 0x17
  | .profileInUse => 0x18
  | .protectedSlot => 0x19
  | .busy => 0x1A
  | .geometryClash => 0x1B
  | .noTarget => 0x1C
  | .bandMismatch => 0x1D
  | .setChanged => 0x1E
  | .credit => 0x1F
  | .noSlot => 0x20
  | .rowOrder => 0x21
  | .rowOverflow => 0x22
  | .notComplete => 0x23
  | .storeFault => 0x24

/-- CLAMPED when something was clamped, OK otherwise (R69, R79, R138, R145, R160). -/
def clampCode (clamped : Bool) : ReplyCode :=
  if clamped then .clamped else .ok

/-! ### Codes of states, selectors and results (R169, R173, R175, R176) -/

/-- Code of a job state (R175). -/
def JobState.code : JobState → Byte
  | .free => 0
  | .opened => 1
  | .running => 2
  | .stopping _ => 3
  | .paused => 4
  | .halted => 5
  | .done => 6

/-- Code of the stop reason (R175): absent 0. -/
def JobState.stopCode : JobState → Byte
  | .stopping .pause => 1
  | .stopping .halt => 2
  | _ => 0

/-- Number of a pass (R62, R170). -/
def Pass.number : Pass → Nat
  | .one => 1
  | .two => 2
  | .three => 3

/-- Timer mode selector (R169). -/
def TimerMode.code : TimerMode → Byte
  | .off => 0
  | .paced => 1
  | .page => 2

/-- The timer mode a selector names (R169). -/
def timerModeOf : Nat → Option TimerMode
  | 0 => some .off
  | 1 => some .paced
  | 2 => some .page
  | _ => none

/-- Prescale selector (R169). -/
def Prescale.code : Prescale → Byte
  | .by1 => 0
  | .by16 => 1
  | .by256 => 2
  | .by4096 => 3

/-- The prescale a selector names (R169). -/
def prescaleOf : Nat → Option Prescale
  | 0 => some .by1
  | 1 => some .by16
  | 2 => some .by256
  | 3 => some .by4096
  | _ => none

/-- Base ticks in one prescaled tick (R131). -/
def Prescale.ticks : Prescale → Nat
  | .by1 => 1
  | .by16 => 16
  | .by256 => 256
  | .by4096 => 4096

/-- Rounding mode selector (R169). -/
def Rounding.code : Rounding → Byte
  | .nearest => 0
  | .soft => 1
  | .truncate => 2

/-- The rounding mode a selector names (R169). -/
def roundingOf : Nat → Option Rounding
  | 0 => some .nearest
  | 1 => some .soft
  | 2 => some .truncate
  | _ => none

/-- Code of a profile slot's state (R173). -/
def ProfileContent.code : ProfileContent → Byte
  | .empty => 0
  | .draft _ => 1
  | .ready _ => 2

/-- Code of a save result (R173, R176). -/
def SaveResult.code : SaveResult → Byte
  | .ok => 0x00
  | .storeFault => 0x24

/-- Code of the reset cause (R176). -/
def ResetCause.code : ResetCause → Byte
  | .power => 0
  | .pin => 1
  | .request => 2

/-- The link rate as its straps (R167, R173). -/
def strapsByte (r : Straps) : Byte :=
  flagByte [r.strap0, r.strap1]

/-! ### Numbers and bounds -/

/-- The job or profile slot a unit or slot number names (R61, R144). -/
def index8 (n : Nat) : Option (Fin 8) :=
  if h : n < 8 then some ⟨n, h⟩ else none

/-- All job numbers (and profile slot numbers), ascending (R61, R141). -/
def all8 : List (Fin 8) := [0, 1, 2, 3, 4, 5, 6, 7]

/-- Clamping to a range (spec/00, Conventions). -/
def clampNat (lo hi n : Nat) : Nat := max lo (min hi n)

/-- Clamping to a range (spec/00, Conventions). -/
def clampInt (lo hi n : Int) : Int := max lo (min hi n)

/-! ### JOB OPEN (R169) -/

/-- The timer part of JOB OPEN, and the whole of RETIME (R169). -/
structure TimerRequest where
  mode : Nat
  reload : Nat
  selector : Nat
  deriving DecidableEq, Repr

/-- The fields of a JOB OPEN payload (R169). -/
structure OpenRequest where
  profile : Nat
  width : Nat
  height : Nat
  budget : Nat
  startIndex : Nat
  priority : Nat
  tag : Nat
  mask : Nat
  halts : Conditions
  noticeLevel : Nat
  noticeKinds : NoticeKinds
  timer : Option TimerRequest
  deriving DecidableEq, Repr

/-- Lengths a JOB OPEN payload may have (R174). -/
def openLengths : List Nat := [18, 22]

/-- The fields of a JOB OPEN payload; a length of 22 means the timer part is present (R169, R174). -/
def openRequestOf (p : List Byte) : OpenRequest where
  profile := field p 0 1
  width := field p 1 2
  height := field p 3 2
  budget := field p 5 4
  startIndex := field p 9 1
  priority := field p 10 1
  tag := field p 11 2
  mask := field p 13 2
  halts := conditionsOfByte (p.getD 15 0)
  noticeLevel := field p 16 1
  noticeKinds := noticeKindsOfByte (p.getD 17 0)
  timer :=
    if p.length = 22 then
      some { mode := field p 18 1, reload := field p 19 2, selector := field p 21 1 }
    else none

/-! ### RETIME, RESOLVE, PIXELS (R169) -/

/-- The fields of a RETIME payload (R169). -/
def retimeRequestOf (p : List Byte) : TimerRequest where
  mode := field p 0 1
  reload := field p 1 2
  selector := field p 3 1

/-- Codes of the RESOLVE actions (R169). -/
def actionAccept : Nat := 0
def actionRetry : Nat := 1
def actionDegrade : Nat := 2
def actionDrop : Nat := 3
def actionContinue : Nat := 4

/-- The action code names one of the five actions (R123, R169). -/
def actionNamed (a : Nat) : Bool := a ≤ 4

/-- The fields of a RESOLVE payload (R169). -/
structure ResolveRequest where
  action : Nat
  pass : Nat
  index : Nat
  budget : Nat
  deriving DecidableEq, Repr

/-- The fields of a RESOLVE payload (R169, R171). -/
def resolveRequestOf (p : List Byte) : ResolveRequest where
  action := field p 0 1
  pass := field p 1 1
  index := field p 2 1
  budget := field p 3 4

/-- The pass a RETRY may name: 1 or 2 (R123, R125). -/
def retryPassOf : Nat → Option Pass
  | 1 => some .one
  | 2 => some .two
  | _ => none

/-- The fields of a PIXELS payload, and what follows them (R169). -/
structure PixelsRequest where
  tag : Nat
  band : Nat
  row : Nat
  x : Nat
  count : Nat
  data : List Byte
  deriving DecidableEq, Repr

/-- The fields of a PIXELS payload (R169). -/
def pixelsRequestOf (p : List Byte) : PixelsRequest where
  tag := field p 0 2
  band := field p 2 2
  row := field p 4 1
  x := field p 5 2
  count := field p 7 2
  data := p.drop 9

/-- The pixels of consecutive R, G, B triplets (R86, R169). -/
def tripletsOf : List Byte → List Rgb
  | r :: g :: b :: rest => { r, g, b } :: tripletsOf rest
  | _ => []

/-! ### PROFILE WRITE (R145, R174) -/

/-- Payload length of a group (R174): `none` for a group code above 3; NAME/DEFAULT is 2 to 257. -/
def groupLengthOk (group length : Nat) : Option Bool :=
  match group with
  | 0 => some (length == 9)
  | 1 => some (length == 5)
  | 2 => some (length == 15)
  | 3 => some (2 ≤ length && length ≤ 257)
  | _ => none

end Sys2Proof.Machine
end

