-- ==== Sys2Proof/Machine/Tile.lean ====
section
/-! DEFINITION. Tile arithmetic (spec/01): padding, the colour transform, the three-level tile
transform, tile statistics and zones, steps and quantization. -/

namespace Sys2Proof.Machine

/-! ### Geometry (R1, R37) -/

/-- Columns per band, K (R1). -/
def columnsOf (width : Nat) : Nat := (width + 7) / 8

/-- Bands per page, N (R1). -/
def bandsOf (height : Nat) : Nat := (height + 15) / 16

/-- Real rows of a band: h_last for the last one, 16 for the others (R1). -/
def rowsOfBand (height bands band : Nat) : Nat :=
  if band + 1 = bands then height - 16 * (bands - 1) else 16

/-- The budget floor F(K) (R37). -/
def budgetFloor (columns : Nat) : Nat := max 256 ((122 * columns + 7) / 8)

/-- A budget clamped to F(K) to 196,608 (R44). -/
def clampBudget (columns budget : Nat) : Nat :=
  clampNat (budgetFloor columns) Config.budgetCeiling budget

/-! ### Padding (R2, R3) -/

/-- The padded pixel of a stored row: at x >= W, pixel W - 1 (R3, step 1). -/
def paddedPixel (width : Nat) (row : List Rgb) (x : Nat) : Rgb :=
  row.getD (min x (width - 1)) { r := 0, g := 0, b := 0 }

/-- The band row a padded row is copied from: the last real row (R3, step 2). -/
def paddedRow (b : BandSlot) (r : Nat) : List Rgb :=
  b.rows.getD (min r (b.rowsNeeded - 1)) []

/-- The padded tile whose top left pixel is at position 8c and band row `top` (R2, R3): eight rows of
eight pixels. -/
def tilePixels (b : BandSlot) (column top : Nat) : List (List Rgb) :=
  (List.range 8).map fun y =>
    (List.range 8).map fun x => paddedPixel b.width (paddedRow b (top + y)) (8 * column + x)

/-! ### Colour transform (R4) -/

/-- Y of a pixel (R4). -/
def Rgb.luma (p : Rgb) : Int := ((p.r.toNat + 2 * p.g.toNat + p.b.toNat : Nat) : Int) / 4

/-- U of a pixel (R4). -/
def Rgb.chromaU (p : Rgb) : Int := (p.b.toNat : Int) - p.g.toNat

/-- V of a pixel (R4). -/
def Rgb.chromaV (p : Rgb) : Int := (p.r.toNat : Int) - p.g.toNat

/-! ### The tile transform (R5 to R9) -/

/-- Detail of the lifting pair (R5). -/
def detail (a b : Int) : Int := a - b

/-- Smooth of the lifting pair (R5). -/
def smooth (a b : Int) : Int := b + detail a b / 2

/-- The smooth values of the pairs of a row (R6). -/
def smooths : List Int → List Int
  | a :: b :: rest => smooth a b :: smooths rest
  | _ => []

/-- The detail values of the pairs of a row (R6). -/
def details : List Int → List Int
  | a :: b :: rest => detail a b :: details rest
  | _ => []

/-- The row step on one row: smooth values, then detail values (R6). -/
def liftRow (row : List Int) : List Int := smooths row ++ details row

/-- Rows become columns, for a block of n columns. -/
def transpose (n : Nat) (m : List (List Int)) : List (List Int) :=
  m.foldr (fun row cols => List.zipWith (· :: ·) row cols) (List.replicate n [])

/-- One level on an n × n block: the row step on every row, then the column step (R6). -/
def liftBlock (n : Nat) (m : List (List Int)) : List (List Int) :=
  transpose n ((transpose n (m.map liftRow)).map liftRow)

/-- One level on the n × n top left of an array; the rest stays as it is (R7). -/
def liftTopLeft (n : Nat) (m : List (List Int)) : List (List Int) :=
  List.zipWith (fun new old => new ++ old.drop n) (liftBlock n ((m.take n).map (List.take n)))
    (m.take n) ++ m.drop n

/-- The three levels of a tile component (R7). -/
def transformTile (m : List (List Int)) : List (List Int) :=
  liftTopLeft 2 (liftTopLeft 4 (liftTopLeft 8 m))

/-- The coefficients of the n × n quadrant at an array row and column, in raster order (R9). -/
def quadrant (m : List (List Int)) (row col n : Nat) : List Int :=
  ((m.drop row).take n).flatMap fun r => (r.drop col).take n

/-- The 64 coefficients in scan order: DC; HL3, LH3, HH3; HL2, LH2, HH2; HL1, LH1, HH1 (R7, R9). -/
def scan (m : List (List Int)) : List Int :=
  quadrant m 0 0 1 ++ quadrant m 0 1 1 ++ quadrant m 1 0 1 ++ quadrant m 1 1 1 ++
  quadrant m 0 2 2 ++ quadrant m 2 0 2 ++ quadrant m 2 2 2 ++
  quadrant m 0 4 4 ++ quadrant m 4 0 4 ++ quadrant m 4 4 4

/-- The coefficients of one component of a tile, in scan order (R7, R9). -/
def coefficients (component : Rgb → Int) (tile : List (List Rgb)) : List Int :=
  scan (transformTile (tile.map fun row => row.map component))

/-! ### Statistics and zones (R10, R11, R12) -/

/-- The tone zones, in code order (R11). -/
inductive Zone where
  | brightDetail
  | brightFlat
  | skin
  | shadow
  | mid
  deriving DecidableEq, Repr

/-- The zone code (R11). -/
def Zone.code : Zone → Nat
  | .brightDetail => 0
  | .brightFlat => 1
  | .skin => 2
  | .shadow => 3
  | .mid => 4

/-- The zone a code names (R11); 5 to 7 name none (R25). -/
def zoneOfCode : Nat → Option Zone
  | 0 => some .brightDetail
  | 1 => some .brightFlat
  | 2 => some .skin
  | 3 => some .shadow
  | 4 => some .mid
  | _ => none

/-- The tile statistics (R10). -/
structure TileStatistics where
  dcY : Int
  dcU : Int
  dcV : Int
  span : Int
  deriving DecidableEq, Repr

/-- Largest less smallest of a list of samples (R10). -/
def spanOf (samples : List Int) : Int :=
  samples.foldl max (samples.headD 0) - samples.foldl min (samples.headD 0)

/-- The tone zone by the thresholds of a profile; the first test that holds decides (R11). -/
def zoneOf (p : Profile) (t : TileStatistics) : Zone :=
  if (p.tHi : Int) ≤ t.dcY ∧ (p.tSpan : Int) ≤ t.span then .brightDetail
  else if (p.tHi : Int) ≤ t.dcY ∧ t.span < (p.tSpan : Int) then .brightFlat
  else if t.dcY ≤ (p.tLo : Int) then .shadow
  else if p.uLo ≤ t.dcU ∧ t.dcU ≤ p.uHi ∧ p.vLo ≤ t.dcV ∧ t.dcV ≤ p.vHi then .skin
  else .mid

/-- The settings a zone chooses (R12). -/
def Profile.zone (p : Profile) : Zone → ZoneSettings
  | .brightDetail => p.brightDetail
  | .brightFlat => p.brightFlat
  | .skin => p.skin
  | .shadow => p.shadow
  | .mid => p.mid

/-! ### Steps and quantization (R13 to R20) -/

/-- The step of an AC coefficient (R13). -/
def acStep (base weight index : Nat) : Nat :=
  clampNat 1 255 ((base * weight * (index + 16) + 128) / 256)

/-- The magnitude a rounding mode gives a magnitude c at step t, before the clamp (R17). -/
def Rounding.quotient (m : Rounding) (c t : Nat) : Nat :=
  match m with
  | .nearest => (2 * c + t) / (2 * t)
  | .soft => (4 * c + t) / (4 * t)
  | .truncate => c / t

/-- The level of a coefficient: its magnitude quantized, clamped to 255, with its sign (R16, R19). -/
def levelOf (m : Rounding) (t : Nat) (c : Int) : Int :=
  let q : Int := ((min 255 (m.quotient c.natAbs t) : Nat) : Int)
  if c < 0 then -q else q

/-- The clamp acts on the coefficient (R19). -/
def clips (m : Rounding) (t : Nat) (c : Int) : Bool := 255 < m.quotient c.natAbs t

/-- The effective index of a tile (R43): the ceiling binds in pass 1; pass 3 uses none. -/
def effectiveIndex (pass : Pass) (ceiling running : Nat) : Nat :=
  match pass with
  | .one => min running ceiling
  | .two => running
  | .three => running

/-- The AC step at a place of the AC list, scan positions 1 to 63: scale 3, then 2, then 1
(R7, R9, R13). -/
def acSteps (base : BaseSteps) (weight index : Nat) : List Nat :=
  List.replicate 3 (acStep base.s3 weight index) ++
  List.replicate 12 (acStep base.s2 weight index) ++
  List.replicate 48 (acStep base.s1 weight index)

/-- The levels of one component: the DC level, and the AC levels of scan positions 1 to 63. -/
structure ComponentLevels where
  dc : Int
  ac : List Int
  deriving DecidableEq, Repr

/-- The levels of a component (R14 to R18, R20): DC in NEAREST at the DC step; AC by the zone's mode
and the AC steps, or all zero in pass 3. -/
def componentLevels (pass : Pass) (base : BaseSteps) (z : ZoneSettings) (running : Nat)
    (coeffs : List Int) : ComponentLevels where
  dc := levelOf .nearest base.dc (coeffs.headD 0)
  ac :=
    match pass with
    | .three => List.replicate 63 0
    | _ =>
      List.zipWith (levelOf z.rounding)
        (acSteps base z.weight (effectiveIndex pass z.ceiling running)) coeffs.tail

/-- Some AC level of the component is clamped (R19); none in pass 3 (R20). -/
def componentClips (pass : Pass) (base : BaseSteps) (z : ZoneSettings) (running : Nat)
    (coeffs : List Int) : Bool :=
  match pass with
  | .three => false
  | _ =>
    (List.zipWith (clips z.rounding)
      (acSteps base z.weight (effectiveIndex pass z.ceiling running)) coeffs.tail).any id

/-- What a tile is coded as: its zone and the levels of Y, U and V (R2, R25). -/
structure TileLevels where
  zone : Zone
  y : ComponentLevels
  u : ComponentLevels
  v : ComponentLevels
  deriving DecidableEq, Repr

/-- The statistics of a tile, from its padded pixels alone (R10). -/
def tileStatistics (tile : List (List Rgb)) : TileStatistics where
  dcY := (coefficients Rgb.luma tile).headD 0
  dcU := (coefficients Rgb.chromaU tile).headD 0
  dcV := (coefficients Rgb.chromaV tile).headD 0
  span := spanOf (tile.flatten.map Rgb.luma)

/-- The levels of a tile: a function of its pixels, the profile, the running index and the pass
(R21). -/
def tileLevels (p : Profile) (pass : Pass) (running : Nat) (tile : List (List Rgb)) : TileLevels :=
  let zone := zoneOf p (tileStatistics tile)
  let z := p.zone zone
  { zone
    y := componentLevels pass p.y z running (coefficients Rgb.luma tile)
    u := componentLevels pass p.c z running (coefficients Rgb.chromaU tile)
    v := componentLevels pass p.c z running (coefficients Rgb.chromaV tile) }

/-- Some level of the tile is clamped, which sets the clipped mark (R19). -/
def tileClips (p : Profile) (pass : Pass) (running : Nat) (tile : List (List Rgb)) : Bool :=
  let z := p.zone (zoneOf p (tileStatistics tile))
  componentClips pass p.y z running (coefficients Rgb.luma tile) ||
  componentClips pass p.c z running (coefficients Rgb.chromaU tile) ||
  componentClips pass p.c z running (coefficients Rgb.chromaV tile)

end Sys2Proof.Machine
end

