-- ==== Sys2Proof/Machine/Band.lean ====
section
/-! DEFINITION. The coded band (spec/02): the two codes, the bits of a tile, DC predictors, and the
packing of payload bytes into the reservation. -/

namespace Sys2Proof.Machine

/-- The low `width` bits of a number, most significant first. -/
def bitsMsb : (width : Nat) → Nat → List Bool
  | 0, _ => []
  | width + 1, n => n.testBit width :: bitsMsb width n

/-- The unsigned exponential code of order zero (R23). -/
def ueg0 (n : Nat) : List Bool :=
  let m := (n + 1).log2
  List.replicate m false ++ bitsMsb (m + 1) (n + 1)

/-- The map of SEG0: 2v - 1 for a positive v, -2v otherwise (R24). -/
def seg0Index (v : Int) : Nat :=
  if 0 < v then (2 * v - 1).toNat else (-2 * v).toNat

/-- The signed form of UEG0 (R24). -/
def seg0 (v : Int) : List Bool := ueg0 (seg0Index v)

/-- The entries of an AC list, `run` zeros having passed since the last nonzero level: run,
magnitude less one, sign (R26). -/
def entryBits : (run : Nat) → List Int → List Bool
  | _, [] => []
  | run, v :: rest =>
    if v = 0 then entryBits (run + 1) rest
    else ueg0 run ++ ueg0 (v.natAbs - 1) ++ [decide (v < 0)] ++ entryBits 0 rest

/-- The count of nonzero AC levels (R25). -/
def nonzeroCount (ac : List Int) : Nat := ac.countP (· ≠ 0)

/-- The bits of one component: DC delta, count, entries (R25, R27). -/
def componentBits (predictor : Int) (c : ComponentLevels) : List Bool :=
  seg0 (c.dc - predictor) ++ ueg0 (nonzeroCount c.ac) ++ entryBits 0 c.ac

/-- The bits of one tile: zone code, then Y, U and V (R25). -/
def tileBits (p : Predictors) (t : TileLevels) : List Bool :=
  bitsMsb 3 t.zone.code ++ componentBits p.y t.y ++ componentBits p.u t.u ++ componentBits p.v t.v

/-- The predictors after a tile: its DC levels (R27). -/
def predictorsAfter (t : TileLevels) : Predictors where
  y := t.y.dc
  u := t.u.dc
  v := t.v.dc

/-- A byte from its bits, the first of them the most significant; missing bits are zero (R31,
R33). -/
def packByte (bits : List Bool) : Byte :=
  byte ((List.range 8).foldl (fun n i => 2 * n + (bits.getD i false).toNat) 0)

/-- The payload area with a byte written at a position (R31, R34). The bytes of a pass come in
order, so a position is at most the length of what any pass has written. -/
def writeArea (area : List Byte) (position : Nat) (b : Byte) : List Byte :=
  if position < area.length then area.set position b else area ++ [b]

/-- The bit stream of a pass as it stands in the lane and the reservation (R29, R31, R32). -/
structure Stream where
  bitCount : Nat
  currentByte : List Bool
  stored : Nat
  area : List Byte
  deriving DecidableEq, Repr

/-- A completed byte goes to its position when that is below B, and is discarded otherwise (R32). -/
def Stream.store (budget position : Nat) (b : Byte) (s : Stream) : Stream :=
  if position < budget then
    { s with currentByte := [], stored := s.stored + 1, area := writeArea s.area position b }
  else { s with currentByte := [] }

/-- One payload bit (R29, R31): the bit count rises, and the eighth bit completes the byte. -/
def Stream.pushBit (budget : Nat) (s : Stream) (bit : Bool) : Stream :=
  let s' := { s with bitCount := s.bitCount + 1, currentByte := s.currentByte ++ [bit] }
  if s'.currentByte.length = 8 then
    s'.store budget ((s'.bitCount - 1) / 8) (packByte s'.currentByte)
  else s'

/-- The bits of a field or a tile, in order (R29). -/
def Stream.push (budget : Nat) (s : Stream) (bits : List Bool) : Stream :=
  bits.foldl (Stream.pushBit budget) s

/-- The end of a pass: the current byte, if it holds any bits, is completed with zero bits and
stored if its position is below B (R33). -/
def Stream.finish (budget : Nat) (s : Stream) : Stream :=
  if s.currentByte = [] then s
  else s.store budget ((s.bitCount - 1) / 8) (packByte s.currentByte)

/-- Bytes of a stream of `bits` bits: ceil(T / 8) (R33). -/
def bytesFor (bits : Nat) : Nat := (bits + 7) / 8

end Sys2Proof.Machine
end

