-- ==== Sys2Proof/Machine/Rate.lean ====
section
/-! DEFINITION. Rate control and the pass ladder (spec/03): target, tolerance, the per-column
update, the early-end test and the starting indices. -/

namespace Sys2Proof.Machine

/-- The target G_c (R46). -/
def target (budget columns column : Nat) : Nat := 8 * budget * (column + 1) / columns

/-- The tolerance H (R46): 8B / K rounded up. -/
def tolerance (budget columns : Nat) : Nat := (8 * budget + (columns - 1)) / columns

/-- The error e (R46). -/
def columnError (budget columns column bits : Nat) : Int :=
  (bits : Int) - (target budget columns column : Int)

/-- The per-column update of a running index by the error and the tolerance, clamped to 0 to 63
(R47). -/
def updateIndex (index : Nat) (error : Int) (tol : Nat) : Nat :=
  if 2 * (tol : Int) < error then min 63 (index + 2)
  else if 0 < error then min 63 (index + 1)
  else if error < -(2 * (tol : Int)) then index - 1
  else index

/-- The running index after a column event: updated in passes 1 and 2, left in pass 3 (R45). -/
def nextRunning (pass : Pass) (budget columns column bits running : Nat) : Nat :=
  match pass with
  | .three => running
  | _ => updateIndex running (columnError budget columns column bits) (tolerance budget columns)

/-- The early-end test (R49): not applied in pass 3 (R45). -/
def endsEarly (pass : Pass) (budget bits : Nat) : Bool :=
  match pass with
  | .three => false
  | _ => 8 * budget < bits

/-- The pass after one that did not fit (R106). Only passes 1 and 2 lead on (R118). -/
def Pass.ladder : Pass → Pass
  | .one => .two
  | .two => .three
  | .three => .three

/-- The starting index of the pass that continues the ladder, from the job's S as the ended pass
left it (R42, R52, R54). -/
def ladderIndex (next : Pass) (index : Nat) : Nat :=
  match next with
  | .two => min 63 (index + 8)
  | _ => index

end Sys2Proof.Machine
end

