-- ==== Sys2Proof/Machine/State.lean ====
section
/-! DEFINITION. The state of the part, the reasons a step could stop, and the state after reset. -/

namespace Sys2Proof.Machine

/-- No rule of the spec lets a command stop the part, so there is no fault: a wrong request is
refused with a reply (R61, R91, R123, R144, R159), a bad frame is counted and discarded (R157), and
trouble in coding is a condition (R115). Nothing raises one; its absence is safe. -/
inductive Fault where
  deriving DecidableEq, Repr

/-- The reasons a command could be refused. -/
inductive Refusal where
  /-- Raised by an arm of `exec` whose command has no meaning yet. No arm raises it; safe. -/
  | notModelled (mnemonic : String)
  deriving DecidableEq, Repr

/-- The state of the part. Plain data. -/
structure State where
  /-- The part has power (R148; log 7). -/
  powered : Bool
  /-- The commands waiting, first in first out. -/
  pending : List Instr
  /-- The job table (R61). -/
  jobs : Vector Job 8
  /-- The strip store; `none` is a FREE slot (R83, R84). -/
  slots : Vector (Option BandSlot) 24
  /-- The coding lanes; `none` is IDLE (R100). -/
  lanes : Vector (Option PassState) 2
  /-- The candidate list (R101). -/
  candidates : List (Fin 8)
  /-- Committed records, oldest first (R110). -/
  records : List OutRecord
  /-- The commit count (R109). -/
  commitCount : Byte
  /-- The profile table (R141). -/
  profiles : Vector ProfileSlot 8
  /-- The profile store: the records of slots 1 to 7 (R148). -/
  store : Vector StoreRecord 7
  /-- The record write in progress (R148, R149). -/
  saving : Option SaveWrite
  /-- The device's last save result (R150). -/
  lastSave : Option (Fin 8 × SaveResult)
  /-- The start-up load in progress (R152). -/
  startup : Option StartupLoad
  /-- The slots the start-up load failed (R152). -/
  failedSlots : BitVec 8
  /-- The slot whose save a soft reset cut off (R153). -/
  cutOffSlot : Option (Fin 8)
  /-- What the receiver waits for (R154). -/
  receiver : ReceiverMode
  /-- The frame in reception (R156). -/
  reception : Option Reception
  /-- The inbound queue (R158). -/
  inbound : List Frame
  /-- The reply queue (R163). -/
  replies : List Frame
  /-- What the request decoder has in hand (R159). -/
  inHand : InHand
  /-- The link error counter (R160). -/
  errorCounter : Nat
  /-- The link threshold (R160). -/
  threshold : Nat
  /-- The link totals (R159). -/
  totals : Totals
  /-- The link is in the quiet state (R161). -/
  quiet : Bool
  /-- The straps as sampled, which select the link rate (R167). -/
  straps : Straps
  /-- The device notice pending set (R165). -/
  marks : DeviceMarks
  /-- The reset cause (R177). -/
  resetCause : ResetCause
  /-- The transmitter; `none` is idle, line at mark (R164). -/
  transmitter : Option Transmission
  deriving DecidableEq, Repr

/-- The state right after a power-on reset (R66, R99, R114, R152, R168, R177): the start-up load has
begun and no read has ended. The straps are low, the store was never written (log 3) and slots 1 to 7
are EMPTY until the load has read them (log 18). -/
def State.reset : State where
  powered := true
  pending := []
  jobs := Vector.replicate 8 freeJob
  slots := Vector.replicate 24 none
  lanes := Vector.replicate 2 none
  candidates := []
  records := []
  commitCount := 0
  profiles :=
    (Vector.replicate 8 { content := .empty, lastSave := none }).set 0
      { content := .ready factoryProfile, lastSave := none }
  store := Vector.replicate 7 .blank
  saving := none
  lastSave := none
  startup := some { slot := 1, attempts := 0 }
  failedSlots := 0
  cutOffSlot := none
  receiver := .waiting
  reception := none
  inbound := []
  replies := []
  inHand := .nothing
  errorCounter := 0
  threshold := 31
  totals := {}
  quiet := false
  straps := { strap1 := false, strap0 := false }
  marks := {}
  resetCause := .power
  transmitter := none

end Sys2Proof.Machine
end

