-- ==== Sys2Proof/Machine/Views.lean ====
section
/-! DEFINITION. What is computed from the state when it is read: the views the spec names beside the
fields that hold them. -/

namespace Sys2Proof.Machine

/-- The context of a job number (R61). -/
def State.job (s : State) (j : Fin 8) : Job := s.jobs[j]

/-- The lane that has a pass in flight for the job, with its pass: the job's coding band (R63,
R100). -/
def State.coding (s : State) (j : Fin 8) : Option (Fin 2 × PassState) :=
  match s.lanes[0] with
  | some p =>
    if p.job = j then some (0, p)
    else match s.lanes[1] with
      | some q => if q.job = j then some (1, q) else none
      | none => none
  | none =>
    match s.lanes[1] with
    | some q => if q.job = j then some (1, q) else none
    | none => none

/-- The job has a pass in flight (R65). -/
def State.passInFlight (s : State) (j : Fin 8) : Bool := (s.coding j).isSome

/-- A job that is RUNNING, has no pass in flight and has a non-empty ready queue (R101). -/
def State.eligible (s : State) (j : Fin 8) : Bool :=
  (s.job j).state == .running && !s.passInFlight j && !(s.job j).ready.isEmpty

/-- Bytes reserved for a job (R63): B + 16 or 0. -/
def Job.reserved (j : Job) : Nat :=
  match j.reservation with
  | some r => r.size
  | none => 0

/-- Bytes of a record not yet sent (R110). -/
def OutRecord.unsent (r : OutRecord) : Nat := r.bytes.length - r.sent

/-- Unsent bytes of the committed records (R110). -/
def State.unsentBytes (s : State) : Nat := (s.records.map OutRecord.unsent).sum

/-- Bytes of all reservations (R110). -/
def State.reservedBytes (s : State) : Nat := (all8.map fun j => (s.job j).reserved).sum

/-- The free space of the output queue (R110). -/
def State.freeSpace (s : State) : Nat :=
  Config.outputCapacity - (s.unsentBytes + s.reservedBytes)

/-- All strip store slot numbers, ascending (R83). -/
def all24 : List (Fin 24) := List.finRange 24

/-- The number of FREE strip store slots (R98). -/
def State.freeSlots (s : State) : Nat := all24.countP fun k => (s.slots[k]).isNone

/-- The lowest-numbered FREE slot (R89). -/
def State.firstFreeSlot (s : State) : Option (Fin 24) := all24.find? fun k => (s.slots[k]).isNone

/-- Pixels received of a row of a band slot (R83). -/
def BandSlot.received (b : BandSlot) (row : Nat) : Nat := (b.rows.getD row []).length

/-- Rows complete of a band slot: their received count equals W (R83). -/
def BandSlot.rowsComplete (b : BandSlot) : Nat := b.rows.countP fun r => r.length == b.width

/-- Every needed row is complete (R94). -/
def BandSlot.allComplete (b : BandSlot) : Bool :=
  b.rows.all (fun r => r.length == b.width)

/-- The in-use count of a profile slot (R143). -/
def State.inUse (s : State) (k : Fin 8) : Nat :=
  all8.countP fun j => (s.job j).state != .free && (s.job j).profile == some k

/-- The save-in-flight mark of a profile slot (R149). -/
def State.saveInFlight (s : State) (k : Fin 8) : Bool :=
  match s.saving with
  | some w => w.slot == k
  | none => false

/-- The profile store's record of a slot; slot 0 has none and reads as never written (R148). -/
def State.record (s : State) (k : Fin 8) : StoreRecord :=
  if h : 1 ≤ k.val then s.store[k.val - 1]'(by omega) else .blank

/-- The settings a profile slot holds, in DRAFT and READY (R141). -/
def ProfileContent.settings : ProfileContent → Option Profile
  | .empty => none
  | .draft p => some p
  | .ready p => some p

/-- The settings of the profile slot a job reads (R21). -/
def State.profileOf (s : State) (j : Fin 8) : Option Profile :=
  match (s.job j).profile with
  | some k => (s.profiles[k]).content.settings
  | none => none

/-- The attention summary, formed when it is read (R177). -/
def State.attention (s : State) : Byte :=
  flagByte (all8.map fun j => (s.job j).state == .halted || (s.job j).flags.nonempty)

/-- The credit of a job: 4 - (L - E) (R89). -/
def Job.credit (j : Job) : Nat := 4 - (j.loaded - j.emitted)

/-- The line the transmitter drives, `n` bit times after its frame began (R164): the frame's bits; then,
and with nothing to send, mark. The trailing mark lasts until TRANSMIT_END. -/
def State.lineAt (s : State) (n : Nat) : Bool :=
  match s.transmitter with
  | some t => t.frame.lineBits.getD n true
  | none => true

/-- A job in a state in which PIXELS may target it and the tag overlap test compares it (R65). -/
def JobState.takesPixels : JobState → Bool
  | .opened => true
  | .running => true
  | .stopping _ => true
  | .paused => true
  | .halted => true
  | .free => false
  | .done => false

/-- The request decoder takes the frame at the head of the inbound queue: the part has power, no
start-up load is running (R152), nothing is in hand (R92, R151, R179) and the reply queue has room
(R159). -/
def State.decoderReady (s : State) : Bool :=
  s.powered && s.startup.isNone && s.inHand == .nothing &&
    decide (s.replies.length < Config.replyCapacity)

end Sys2Proof.Machine
end

