-- ==== Sys2Proof/Machine/Reports.lean ====
section
/-! DEFINITION. What the part reports: the data of the reports that carry more than a byte or two,
and the frames of notices and segments (R171, R173, R175, R176, R178). -/

namespace Sys2Proof.Machine

/-- The profile slot number of a context, 0xFF for none (R175). -/
def Job.profileByte (j : Job) : Byte :=
  match j.profile with
  | some k => byte k
  | none => 0xFF

/-- The timer fields of a report: mode, reload, prescale selector, count, running and buffer bits,
buffered reload and prescale selector (R131, R175). JOB STATUS has them so. DESIGN CHOICE: a reply to
RETIME has them so too, the running bit ahead of the buffered reload and an absent one as zeros, where
R131 lists the buffered reload first (R138, R173; log 10). -/
def Timer.report (t : Timer) : List Byte :=
  [t.mode.code] ++ leBytes 2 t.interval.reload ++ [t.interval.prescale.code] ++ leBytes 2 t.count ++
  [flagByte [t.running, t.buffered.isSome]] ++
  match t.buffered with
  | some i => leBytes 2 i.reload ++ [i.prescale.code]
  | none => [0, 0, 0]

/-- The band a slot holds, as JOB STATUS reports it (R98). -/
def State.bandIn (s : State) (k : Fin 24) : Nat :=
  match s.slots[k] with
  | some b => b.band
  | none => 0

/-- Rows complete of a slot (R83). -/
def State.rowsIn (s : State) (k : Fin 24) : Nat :=
  match s.slots[k] with
  | some b => b.rowsComplete
  | none => 0

/-- The two bits of a withheld band: ran all K columns, fits (R175). -/
def Withheld.bits (w : Withheld) : Byte := flagByte [w.complete, w.fits]

/-- The loading slot of a report, zeros when absent (R175). -/
def State.loadingReport (s : State) (j : Fin 8) : List Byte :=
  match (s.job j).loading with
  | some k => leBytes 2 (s.bandIn k) ++ [byte (s.rowsIn k)]
  | none => [0, 0, 0]

/-- The ready queue of a report: a count, then four band numbers, absent ones zero (R175). -/
def State.readyReport (s : State) (j : Fin 8) : List Byte :=
  let bands := (s.job j).ready.map s.bandIn
  byte bands.length :: ((bands ++ List.replicate (4 - bands.length) 0).flatMap (leBytes 2))

/-- The coding band of a report, zeros when absent (R175). -/
def State.codingReport (s : State) (j : Fin 8) : List Byte :=
  match s.coding j with
  | some (l, p) => leBytes 2 p.band ++ [byte p.pass.number, byte l] ++ leBytes 2 p.column
  | none => [0, 0, 0, 0, 0, 0]

/-- The withheld band of a report, zeros when absent (R175). -/
def Job.withheldReport (j : Job) : List Byte :=
  match j.withheld with
  | some w => leBytes 2 w.band ++ [byte w.pass.number, w.bits] ++ leBytes 3 w.stored
  | none => [0, 0, 0, 0, 0, 0, 0]

/-- The data of a JOB STATUS reply: the context as it stands (R81, R175). -/
def State.statusReport (s : State) (j : Fin 8) : List Byte :=
  let c := s.job j
  [c.state.code, c.state.stopCode, c.profileByte] ++
  leBytes 2 c.width ++ leBytes 2 c.height ++ leBytes 2 c.columns ++ leBytes 2 c.bands ++
  leBytes 3 c.budget ++ [byte c.index, byte c.nextPass.number, byte c.priority] ++
  leBytes 2 c.tag.toNat ++ leBytes 2 c.mask.toNat ++
  [c.halts.toByte, c.causes.toByte, c.flags.toByte] ++
  [byte c.noticeLevel, c.noticeKinds.toByte, c.noticePending.toByte] ++
  c.timer.report ++
  leBytes 2 c.loaded ++ leBytes 2 c.emitted ++ leBytes 2 c.due ++
  [flagByte [c.loading.isSome, s.passInFlight j, c.withheld.isSome]] ++
  s.loadingReport j ++ s.readyReport j ++ s.codingReport j ++ c.withheldReport ++
  leBytes 3 c.reserved

/-- The data of an INQUIRE reply (R178). -/
def State.inquireReport (s : State) : List Byte :=
  leBytes 2 Config.vendor ++ leBytes 2 Config.part ++ [Config.revision] ++ [8, 8, 24, 2] ++
  leBytes 3 Config.outputCapacity ++
  [s.resetCause.code, flagByte [s.quiet], byte s.freeSlots] ++ leBytes 3 s.freeSpace ++
  [s.attention]

/-- The four totals of a report (R173). -/
def Totals.report (t : Totals) : List Byte :=
  leBytes 2 t.bad ++ leBytes 2 t.noisy ++ leBytes 2 t.overrun ++ leBytes 2 t.breaks

/-- The data of a LINK STATUS reply (R162). -/
def State.linkReport (s : State) : List Byte :=
  [flagByte [s.quiet], byte s.errorCounter, byte s.threshold] ++ s.totals.report ++
  [strapsByte s.straps]

/-- The last save result of a report (R173): none 0xFF. -/
def saveResultByte : Option SaveResult → Byte
  | some r => r.code
  | none => 0xFF

/-- The items every profile reply carries first: state, in-use count, save-in-flight mark (R144,
R173). -/
def State.profileHead (s : State) (k : Fin 8) : List Byte :=
  [(s.profiles[k]).content.code, byte (s.inUse k), flagByte [s.saveInFlight k]]

/-- Base steps in the order of the STEPS group (R173, R174). -/
def BaseSteps.report (b : BaseSteps) : List Byte := [byte b.dc, byte b.s3, byte b.s2, byte b.s1]

/-- The settings of a zone (R173). -/
def ZoneSettings.report (z : ZoneSettings) : List Byte :=
  [byte z.weight, byte z.ceiling, z.rounding.code]

/-- The seven values of the THRESHOLDS group, two bytes signed each (R173, R174). -/
def Profile.thresholdsReport (p : Profile) : List Byte :=
  signedBytes p.tHi ++ signedBytes p.tLo ++ signedBytes p.tSpan ++
  signedBytes p.uLo ++ signedBytes p.uHi ++ signedBytes p.vLo ++ signedBytes p.vHi

/-- A name as a count byte and its characters (R173). -/
def Profile.nameReport (p : Profile) : List Byte := byte p.name.length :: p.name

/-- The settings of a PROFILE READ reply (R173). -/
def Profile.report (p : Profile) : List Byte :=
  p.y.report ++ p.c.report ++
  p.brightDetail.report ++ p.brightFlat.report ++ p.skin.report ++ p.shadow.report ++
  p.mid.report ++ p.thresholdsReport ++ [byte p.startIndex] ++ p.nameReport

/-! ### Notices (R165, R176) -/

/-- The STARTUP notice (R176, R180). -/
def State.startupNotice (s : State) : Frame where
  kind := kindNotice
  unit := 0
  payload :=
    [1, s.resetCause.code, s.failedSlots,
     match s.cutOffSlot with
     | some k => byte k
     | none => 0]

/-- The LINK_QUIET notice (R176). -/
def State.linkQuietNotice (s : State) : Frame where
  kind := kindNotice
  unit := 0
  payload := [2, flagByte [s.quiet], byte s.errorCounter, byte s.threshold]

/-- The SAVE_DONE notice: the device's last save result (R150, R176). -/
def State.saveDoneNotice (s : State) : Frame where
  kind := kindNotice
  unit := 0
  payload :=
    3 :: match s.lastSave with
      | some (k, r) => [byte k, r.code]
      | none => [0, 0xFF]

/-- The withheld band of a job notice, zeros when absent (R130, R176). -/
def Job.withheldNotice (j : Job) : List Byte :=
  match j.withheld with
  | some w => [1] ++ leBytes 2 w.band ++ [byte w.pass.number, w.bits]
  | none => [0, 0, 0, 0, 0]

/-- A job's notice, built from its context as it stands (R130, R176). -/
def State.jobNotice (s : State) (j : Fin 8) : Frame :=
  let c := s.job j
  { kind := kindNotice
    unit := byte j
    payload :=
      [0, c.state.code, c.state.stopCode, c.causes.toByte, c.flags.toByte] ++
      leBytes 2 c.loaded ++ leBytes 2 c.emitted ++ leBytes 2 c.due ++ c.withheldNotice }

/-! ### Segments (R111, R166) -/

/-- The record bytes of the segment a record offers: from its first unsent byte to its end, at most
4,093 (R111). -/
def OutRecord.nextBytes (r : OutRecord) : List Byte :=
  (r.bytes.drop r.sent).take Config.segmentBytes

/-- The OUTPUT frame a record offers (R111, R166, R171). -/
def OutRecord.segment (r : OutRecord) : Frame where
  kind := kindOutput
  unit := byte r.job
  payload := leBytes 3 r.sent ++ r.nextBytes

end Sys2Proof.Machine
end

