-- ==== Sys2Proof/Machine/Ops.lean ====
section
/-! DEFINITION. The operations the commands share: changing a context, replying, leaving a slot,
committing a record, keeping the candidate list, choosing the next frame, and taking an event. -/

namespace Sys2Proof.Machine

/-! ### Contexts, slots, lanes -/

/-- The state with one context replaced. -/
def State.setJob (s : State) (j : Fin 8) (v : Job) : State :=
  { s with jobs := s.jobs.set j v }

/-- The state with one context changed. -/
def State.modifyJob (s : State) (j : Fin 8) (f : Job → Job) : State :=
  s.setJob j (f (s.job j))

/-- The state with every context changed by a function of its number. -/
def State.mapJobs (s : State) (f : Fin 8 → Job → Job) : State :=
  { s with jobs := Vector.ofFn fun j => f j (s.job j) }

/-- The state with one band slot replaced. -/
def State.setSlot (s : State) (k : Fin 24) (v : Option BandSlot) : State :=
  { s with slots := s.slots.set k v }

/-- The state with one lane replaced. -/
def State.setLane (s : State) (l : Fin 2) (v : Option PassState) : State :=
  { s with lanes := s.lanes.set l v }

/-- The set of one job. -/
def jobBit (j : Fin 8) : JobSet := 1#8 <<< j.val

/-- The job is a member of the set. -/
def JobSet.has (r : JobSet) (j : Fin 8) : Bool := r.getLsbD j

/-- The set of the jobs of a list. -/
def jobSetOf (js : List (Fin 8)) : JobSet := js.foldl (fun r j => r ||| jobBit j) 0

/-- A job leaves a slot's reference set; the slot that loses its last member is FREE (R95). A job
that is no member changes nothing. -/
def leaveSlot (j : Fin 8) : Option BandSlot → Option BandSlot
  | some b =>
    if JobSet.has b.refs j then
      if b.refs &&& ~~~(jobBit j) = 0 then none
      else some { b with refs := b.refs &&& ~~~(jobBit j) }
    else some b
  | none => none

/-- A job leaves the reference set of one slot (R95). -/
def State.leave (s : State) (j : Fin 8) (k : Fin 24) : State :=
  s.setSlot k (leaveSlot j s.slots[k])

/-- A job leaves the reference set of every slot it holds (R76, R78). By R85 those are the slots
whose reference set it is in. -/
def State.leaveAll (s : State) (j : Fin 8) : State :=
  { s with slots := Vector.ofFn fun k => leaveSlot j s.slots[k] }

/-! ### Replies -/

/-- The REPLY to a request: it echoes kind and unit (R159, R171, R172). -/
def replyFrame (kind unit : Byte) (code : ReplyCode) (data : List Byte) : Frame where
  kind := kindReply
  unit := unit
  payload := kind :: code.value :: data

/-- A reply joins the tail of the reply queue (R163). -/
def State.post (s : State) (kind unit : Byte) (code : ReplyCode) (data : List Byte) : State :=
  { s with replies := s.replies ++ [replyFrame kind unit code data] }

/-- The reply to the frame in hand. -/
def State.answer (s : State) (f : Frame) (code : ReplyCode) (data : List Byte) : State :=
  s.post f.kind f.unit code data

/-! ### Commit (R108, R109) -/

/-- The sixteen bytes of a band record's header (R170). -/
def headerBytes (mark job : Byte) (band pass : Nat) (flags : Byte) (startIndex lateness budget
    payloadLength columns : Nat) : List Byte :=
  [mark, job] ++ leBytes 2 band ++ [byte pass, flags, byte startIndex, byte lateness] ++
  leBytes 3 budget ++ leBytes 3 payloadLength ++ leBytes 2 columns

/-- What a commit takes from the pass, the withheld band or the DROP (R108). -/
structure CommitSource where
  slot : Fin 24
  band : Nat
  pass : Nat
  clipped : Bool
  lifted : Bool
  dropped : Bool
  resolved : Bool
  startIndex : Nat
  payload : List Byte
  deriving DecidableEq, Repr

/-- The band is late at a commit event: its number is below D (R108, R137). -/
def Job.isLate (j : Job) (band : Nat) : Bool := decide (band < j.due)

/-- The lateness field: D - band clamped to 255, 0 without LATE (R108). -/
def Job.lateness (j : Job) (band : Nat) : Nat :=
  if j.isLate band then min 255 (j.due - band) else 0

/-- The record a commit places: header, then payload (R108, R170). -/
def State.recordFor (s : State) (j : Fin 8) (c : CommitSource) : OutRecord where
  job := j
  bytes :=
    headerBytes s.commitCount (byte j) c.band c.pass
      (flagByte [(s.job j).isLate c.band, c.clipped, c.lifted, c.dropped, c.resolved])
      c.startIndex ((s.job j).lateness c.band) (s.job j).budget c.payload.length (s.job j).columns ++
    c.payload
  sent := 0

/-- A commit, less the state the job takes (R109): the record joins the tail of the output queue, the
reservation ends, the commit count rises, the job leaves the slot, E rises and the next pass
becomes 1. -/
def State.commit (s : State) (j : Fin 8) (c : CommitSource) : State :=
  ({ s with
      records := s.records ++ [s.recordFor j c]
      commitCount := s.commitCount + 1 }.leave j c.slot).modifyJob j fun job =>
    { job with reservation := none, emitted := job.emitted + 1, nextPass := .one }

/-- Entering DONE (R75, R136): the timer stops and a buffered reload is discarded. -/
def Job.enterDone (j : Job) : Job :=
  { j with timer := { j.timer with running := false, buffered := none } }.enter .done

/-- The state a job takes when nothing stops it: DONE when E equals N, RUNNING otherwise (R118,
R124, R127). -/
def Job.goOn (j : Job) : Job :=
  if j.emitted = j.bands then j.enterDone else j.enter .running

/-! ### The candidate list (R101) -/

/-- A job takes its place in grant order: before the first job of lower priority (R101). -/
def insertCandidate (priority : Fin 8 → Nat) (j : Fin 8) : List (Fin 8) → List (Fin 8)
  | [] => [j]
  | k :: rest =>
    if priority k < priority j then j :: k :: rest
    else k :: insertCandidate priority j rest

/-- A job that has become a candidate joins the list; one already on it keeps its place (R101). -/
def State.joinIfEligible (s : State) (list : List (Fin 8)) (j : Fin 8) : List (Fin 8) :=
  if s.eligible j && !list.contains j then insertCandidate (fun k => (s.job k).priority) j list
  else list

/-- The candidate list after an event: jobs no longer eligible leave it, and newly eligible ones
join, several in ascending job number (R101). -/
def State.updateCandidates (s : State) : State :=
  { s with candidates := all8.foldl s.joinIfEligible (s.candidates.filter s.eligible) }

/-! ### The outbound arbiter (R164) -/

/-- Among jobs with a pending notice, the one of highest level, then of lowest number (R82, R164). -/
def State.noticeJob (s : State) : Option (Fin 8) :=
  [3, 2, 1, 0].findSome? fun level =>
    all8.find? fun j =>
      (s.job j).noticePending.nonempty && decide (min 3 (s.job j).noticeLevel = level)

/-- The arbiter's choice among what is available: a reply, a device notice, a job notice, a segment
(R164). A notice is built and its mark cleared in this event (R165, R82). -/
def State.choose (s : State) : State :=
  match s.replies with
  | r :: _ => { s with transmitter := some { sending := .reply, frame := r } }
  | [] =>
    if s.marks.startup then
      { s with
        transmitter := some { sending := .notice, frame := s.startupNotice }
        marks := { s.marks with startup := false } }
    else if s.marks.linkQuiet then
      { s with
        transmitter := some { sending := .notice, frame := s.linkQuietNotice }
        marks := { s.marks with linkQuiet := false } }
    else if s.marks.saveDone then
      { s with
        transmitter := some { sending := .notice, frame := s.saveDoneNotice }
        marks := { s.marks with saveDone := false } }
    else
      match s.noticeJob with
      | some j =>
        { s with transmitter := some { sending := .notice, frame := s.jobNotice j } }.modifyJob j
          fun job => { job with noticePending := {} }
      | none =>
        match s.records with
        | r :: _ =>
          { s with
            transmitter := some { sending := .segment r.nextBytes.length, frame := r.segment } }
        | [] => s

/-- The arbiter acts when the transmitter is free (R164); once a SOFT RESET is accepted no further
frame is begun ahead of it (R179). -/
def State.arbitrate (s : State) : State :=
  if s.transmitter.isNone && s.inHand != .softReset then s.choose else s

/-! ### Taking an event -/

/-- What follows every event at once: the candidate list follows the contexts (R101), and the
arbiter takes what has become available while the transmitter is idle (R164). -/
def State.settle (s : State) : State := s.updateCandidates.arbitrate

/-- A command whose event the part may take: without power it takes none; an event that cannot
occur now (`none`) leaves the state as it is (log 1). -/
def occur (event : State → Option State) (s : State) : State :=
  if s.powered then
    match event s with
    | some t => t.settle
    | none => s
  else s

/-- The request decoder takes the head of the inbound queue when it is a frame of the row (R159). -/
def takeHead (mine : Frame → Bool) (handle : Frame → State → State) (s : State) : Option State :=
  if s.decoderReady then
    match s.inbound with
    | f :: rest => if mine f then some (handle f { s with inbound := rest }) else none
    | [] => none
  else none

/-- The frame has the kind. -/
def isKind (kind : Byte) (f : Frame) : Bool := f.kind == kind

/-- The decoder's length check (R159): a length that is not one of the kind's is refused with
BAD_LENGTH and no data (R173). -/
def withLength (ok : Nat → Bool) (handle : Frame → State → State) (f : Frame) (s : State) : State :=
  if ok f.payload.length then handle f s else s.answer f .badLength []

/-- A device request (R159): its unit must be 0, else BAD_FIELD naming the unit (R173). -/
def deviceRequest (length : Nat) (owner : Frame → State → State) : Frame → State → State :=
  withLength (· == length) fun f s =>
    if f.unit = 0 then owner f s else s.answer f .badField [0xFF]

/-- A job request (R61): its unit names a context, else NO_JOB. -/
def jobRequest (ok : Nat → Bool) (owner : Fin 8 → Frame → State → State) : Frame → State → State :=
  withLength ok fun f s =>
    match index8 f.unit.toNat with
    | some j => owner j f s
    | none => s.answer f .noJob []

/-- A profile request (R144): its unit names a slot, else BAD_FIELD naming the unit. -/
def profileRequest (ok : Nat → Bool) (owner : Fin 8 → Frame → State → State) :
    Frame → State → State :=
  withLength ok fun f s =>
    match index8 f.unit.toNat with
    | some k => owner k f s
    | none => s.answer f .badField [0xFF]

/-- A refused job request changes nothing; its reply carries the code, the state of the context as
it stands, and what the refusal adds (R61, R173). -/
def State.refuseJob (s : State) (j : Fin 8) (f : Frame) (code : ReplyCode) (more : List Byte) :
    State :=
  s.answer f code ((s.job j).state.code :: more)

end Sys2Proof.Machine
end

