-- ==== Sys2Proof/Machine/Intake.lean ====
section
/-! DEFINITION. Pixel intake (spec/05): the checks of a PIXELS frame, allocation, the write and the
FULL event. -/

namespace Sys2Proof.Machine

/-- A job of these tag and mask admits the frame tag (R68, R86). -/
def Job.admits (j : Job) (tag : BitVec 12) : Bool := ((tag ^^^ j.tag) &&& j.mask) == 0

/-- The target set of a frame tag, ascending (R86). -/
def State.targets (s : State) (tag : BitVec 12) : List (Fin 8) :=
  all8.filter fun j => (s.job j).state.takesPixels && (s.job j).admits tag

/-- A refusal of PIXELS: its code and what it adds to the data every refusal carries (R91). -/
abbrev IntakeRefusal := ReplyCode × List Byte

/-- A target does not expect the band: its L differs, or equals N (R87, R91). -/
def Job.expectsNot (j : Job) (band : Nat) : Bool :=
  decide (j.loaded ≠ band) || decide (j.bands ≤ j.loaded)

/-- The check of a frame that continues a loading slot (R88): every target holds that slot, and its
reference set is the target set. `holder` is the lowest-numbered target holding one. -/
def State.continuedSlot (s : State) (ts : List (Fin 8)) (holder : Fin 8) (k : Fin 24) :
    Except IntakeRefusal (Fin 24 × BandSlot) :=
  match s.slots[k] with
  | some b =>
    if (ts.all fun j => (s.job j).loading == some k) && b.refs == jobSetOf ts then .ok (k, b)
    else .error (.setChanged,
      [byte holder] ++ leBytes 2 b.band ++ leBytes 2 b.tag.toNat ++ [b.refs])
  | none => .error (.setChanged, [byte holder, 0, 0, 0, 0, 0])

/-- The slot an allocation makes (R89). -/
def freshSlot (tag : BitVec 12) (band : Nat) (j : Job) (refs : JobSet) : BandSlot :=
  let rows := rowsOfBand j.height j.bands band
  { full := false
    tag := tag
    band := band
    width := j.width
    rowsNeeded := rows
    rows := List.replicate rows []
    refs := refs }

/-- The credit and space checks of a frame that begins a band (R89). `first` is the lowest-numbered
target, whose geometry all targets share (R86). -/
def State.newSlot (s : State) (ts : List (Fin 8)) (first : Fin 8) (tag : BitVec 12) (band : Nat) :
    Except IntakeRefusal (Fin 24 × BandSlot) :=
  match ts.find? fun j => (s.job j).credit == 0 with
  | some j =>
    .error (.credit, [byte j] ++ leBytes 2 (s.job j).loaded ++ leBytes 2 (s.job j).emitted)
  | none =>
    match s.firstFreeSlot with
    | none => .error (.noSlot, [])
    | some k => .ok (k, freshSlot tag band (s.job first) (jobSetOf ts))

/-- The data checks (R90). -/
def dataRefusal (b : BandSlot) (q : PixelsRequest) : Option IntakeRefusal :=
  if q.count = 0 ∨ 1024 < q.count then some (.badField, [7])
  else if b.rowsNeeded ≤ q.row then some (.badField, [4])
  else if q.x ≠ b.received q.row then some (.rowOrder, [])
  else if b.width < q.x + q.count then some (.rowOverflow, [])
  else if q.data.length ≠ 3 * q.count then some (.badLength, [])
  else none

/-- The frame's slot by checks 1 to 6 (R87): the one it continues, or the one it would allocate. -/
def State.intakeSlot (s : State) (q : PixelsRequest) : Except IntakeRefusal (Fin 24 × BandSlot) :=
  if s.quiet then .error (.linkQuiet, [])
  else if 4095 < q.tag then .error (.badField, [0])
  else
    let tag := BitVec.ofNat 12 q.tag
    let ts := s.targets tag
    match ts with
    | [] => .error (.noTarget, [])
    | first :: _ =>
      match ts.find? fun j => (s.job j).expectsNot q.band with
      | some j => .error (.bandMismatch, [byte j] ++ leBytes 2 (s.job j).loaded)
      | none =>
        match ts.find? fun j => (s.job j).loading.isSome with
        | some holder =>
          match (s.job holder).loading with
          | some k => s.continuedSlot ts holder k
          | none => .error (.setChanged, [])
        | none => s.newSlot ts first tag q.band

/-- Rows complete of the loading slot of the lowest-numbered target that holds one, or 0 (R91). -/
def State.loadingRows (s : State) (tag : Nat) : Nat :=
  match (s.targets (BitVec.ofNat 12 tag)).findSome? fun j => (s.job j).loading with
  | some k => s.rowsIn k
  | none => 0

/-- A refused PIXELS frame changes nothing (R91): its reply carries the code, rows complete, the free
count, and what the refusal adds. -/
def State.refusePixels (s : State) (f : Frame) (tag : Nat) (r : IntakeRefusal) : State :=
  s.answer f r.1 ([byte (s.loadingRows tag), byte s.freeSlots] ++ r.2)

/-- The frame is accepted (R89, R92): the slot is allocated or found, each target's loading slot is
that slot, and the write begins. -/
def State.beginWrite (s : State) (f : Frame) (q : PixelsRequest) (k : Fin 24) (b : BandSlot) : State :=
  { (s.setSlot k (some b)).mapJobs (fun j job =>
      if JobSet.has b.refs j then { job with loading := some k } else job) with
    inHand := .pixels { unit := f.unit, slot := k, row := q.row, pixels := tripletsOf q.data } }

/-- PIXELS, once its length is checked (R87). The unit addresses nothing (R86). -/
def pixelsTaken (f : Frame) (s : State) : State :=
  let q := pixelsRequestOf f.payload
  match s.intakeSlot q with
  | .error r => s.refusePixels f q.tag r
  | .ok (k, b) =>
    match dataRefusal b q with
    | some r => s.refusePixels f q.tag r
    | none => s.beginWrite f q k b

/-- PIXELS (R87). -/
def execPixels (s : State) : Host.Outcome State Fault Refusal :=
  .next (occur (takeHead (isKind kindPixels) (withLength (9 ≤ ·) pixelsTaken)) s)

/-! ### The write completes (R92, R94) -/

/-- The slot with the frame's pixels in its row (R92). -/
def BandSlot.withPixels (b : BandSlot) (row : Nat) (pixels : List Rgb) : BandSlot :=
  { b with rows := b.rows.set row (b.rows.getD row [] ++ pixels) }

/-- A member's context at the FULL event (R94): the slot leaves the loading part for the tail of the
ready queue, and L rises. -/
def Job.bandLoaded (j : Job) (k : Fin 24) : Job :=
  { j with loading := none, ready := j.ready ++ [k], loaded := j.loaded + 1 }

/-- The slot after the write: FULL when every needed row is complete (R94). -/
def State.storeWritten (s : State) (k : Fin 24) (b : BandSlot) : State :=
  if b.allComplete then
    (s.setSlot k (some { b with full := true })).mapJobs fun j job =>
      if JobSet.has b.refs j then job.bandLoaded k else job
  else s.setSlot k (some b)

/-- The write in progress completes, and its reply is posted: rows complete and the free count
(R92). -/
def pixelsWriteCompleteEvent (s : State) : Option State :=
  match s.inHand with
  | .pixels w =>
    let s' :=
      match s.slots[w.slot] with
      | some b => s.storeWritten w.slot (b.withPixels w.row w.pixels)
      | none => s
    some ({ s' with inHand := .nothing }.post kindPixels w.unit .ok
      [byte (s'.rowsIn w.slot), byte s'.freeSlots])
  | _ => none

/-- PIXELS_WRITE_COMPLETE (R92). -/
def execPixelsWriteComplete (s : State) : Host.Outcome State Fault Refusal :=
  .next (occur pixelsWriteCompleteEvent s)

end Sys2Proof.Machine
end

