-- ==== Sys2Proof/Machine/Lanes.lean ====
section
/-! DEFINITION. The coding lanes (spec/06): grants, the column event with the coding it completes, the
pass end and its decision (R118). -/

namespace Sys2Proof.Machine

/-! ### Grants (R102, R103) -/

/-- The lane a grant takes: lane 0 when both are IDLE (R102). -/
def State.idleLane (s : State) : Option (Fin 2) :=
  if s.lanes[0].isNone then some 0
  else if s.lanes[1].isNone then some 1
  else none

/-- The pass state at the start of a pass (R22, R27, R29, R42, R49, R100). -/
def beginPass (job : Fin 8) (slot : Fin 24) (band : Nat) (pass : Pass) (index : Nat) : PassState where
  job := job
  slot := slot
  band := band
  pass := pass
  column := 0
  startIndex := index
  runningIndex := index
  bitCount := 0
  predictors := {}
  currentByte := []
  stored := 0
  clippedMark := false
  overMark := false

/-- The context at a grant (R103): the head of the ready queue leaves it, the reservation is made and
the cause set is emptied. The next pass is read and not written. -/
def Job.granted (j : Job) (rest : List (Fin 24)) : Job :=
  { j with
    ready := rest
    reservation := some { size := j.budget + 16, area := [] }
    causes := {} }

/-- A grant of lane l to job j, whose ready queue is slot k and then the rest (R103). -/
def State.grantTo (s : State) (l : Fin 2) (j : Fin 8) (k : Fin 24) (rest : List (Fin 24)) : State :=
  let job := s.job j
  { (s.setLane l (some (beginPass j k (s.bandIn k) job.nextPass job.index))).setJob j
      (job.granted rest) with
    candidates := s.candidates.erase j }

/-- The arbiter grants an IDLE lane to the head of the candidate list, when the free space is at least
B + 16 (R102). It looks only at the head. -/
def grantEvent (s : State) : Option State :=
  match s.idleLane, s.candidates with
  | some l, j :: _ =>
    match (s.job j).ready with
    | k :: rest => if (s.job j).budget + 16 ≤ s.freeSpace then some (s.grantTo l j k rest) else none
    | [] => none
  | _, _ => none

/-- GRANT (R103). -/
def execGrant (s : State) : Host.Outcome State Fault Refusal :=
  .next (occur grantEvent s)

/-! ### Coding a column (R2, R25, R29) -/

/-- A pass with the payload area of its reservation. -/
structure Coding where
  pass : PassState
  area : List Byte
  deriving DecidableEq, Repr

/-- The bit stream of a pass. -/
def Coding.stream (c : Coding) : Stream where
  bitCount := c.pass.bitCount
  currentByte := c.pass.currentByte
  stored := c.pass.stored
  area := c.area

/-- A pass with its bit stream replaced. -/
def Coding.withStream (c : Coding) (st : Stream) : Coding where
  pass :=
    { c.pass with
      bitCount := st.bitCount
      currentByte := st.currentByte
      stored := st.stored }
  area := st.area

/-- One tile of the lane's column, whose top band row is `top`: its levels, its bits, the predictors
and the clipped mark (R19, R25, R27, R29). -/
def Coding.codeTile (p : Profile) (budget : Nat) (b : BandSlot) (top : Nat) (c : Coding) : Coding :=
  let tile := tilePixels b c.pass.column top
  let levels := tileLevels p c.pass.pass c.pass.runningIndex tile
  let pushed := c.withStream (c.stream.push budget (tileBits c.pass.predictors levels))
  { pushed with
    pass :=
      { pushed.pass with
        predictors := predictorsAfter levels
        clippedMark :=
          c.pass.clippedMark || tileClips p c.pass.pass c.pass.runningIndex tile } }

/-- The lane's column: its top tile, then its bottom tile (R2). -/
def Coding.codeColumn (p : Profile) (budget : Nat) (b : BandSlot) (c : Coding) : Coding :=
  (c.codeTile p budget b 0).codeTile p budget b 8

/-- Rate control at the column event (R45): the update, then the early-end test. -/
def PassState.steer (budget columns : Nat) (p : PassState) : PassState :=
  { p with
    runningIndex := nextRunning p.pass budget columns p.column p.bitCount p.runningIndex
    overMark := p.overMark || endsEarly p.pass budget p.bitCount }

/-! ### The pass end (R50, R105, R118) -/

/-- The last byte of a pass is padded and stored (R33). -/
def Coding.finish (budget : Nat) (c : Coding) : Coding :=
  c.withStream (c.stream.finish budget)

/-- The context at a pass end, before the decision (R42, R50): the payload area as the lane left it,
S written after passes 1 and 2, CLIPPED raised when the clipped mark is set, and the ladder condition
when the pass does not fit (R51, R53). -/
def Job.passResults (j : Job) (c : Coding) : Job :=
  let p := c.pass
  let held := { j with reservation := j.reservation.map fun r => { r with area := c.area } }
  let steered := if p.pass = .three then held else { held with index := p.runningIndex }
  let clipped := if p.clippedMark then steered.raise .clipped else steered
  if p.overMark then
    match p.pass with
    | .one => clipped.raise .overbudget
    | .two => clipped.raise .degraded
    | .three => clipped
  else clipped

/-- The pass end halts the job (R118, case 1): a cause has its halt enabled, or the stop reason is
HALT. -/
def Job.haltsHere (j : Job) : Bool := j.causes.meets j.halts || j.state == .stopping .halt

/-- The withheld band a halt makes of a pass (R107). -/
def withheldOf (p : PassState) (columns : Nat) : Withheld where
  slot := p.slot
  band := p.band
  pass := p.pass
  complete := decide (p.column + 1 = columns)
  fits := !p.overMark
  stored := p.stored
  startIndex := p.startIndex
  clippedMark := p.clippedMark

/-- A halt at the pass end (R107, R119). -/
def State.haltPass (s : State) (l : Fin 2) (p : PassState) : State :=
  (s.setLane l none).modifyJob p.job fun job =>
    { job with withheld := some (withheldOf p job.columns) }.enter .halted

/-- What a pass end commits (R108). -/
def passSource (c : Coding) : CommitSource where
  slot := c.pass.slot
  band := c.pass.band
  pass := c.pass.pass.number
  clipped := c.pass.clippedMark
  lifted := c.pass.pass == .two
  dropped := false
  resolved := false
  startIndex := c.pass.startIndex
  payload := c.area.take c.pass.stored

/-- The state a job takes at a commit by the pass-end decision (R118, case 2). -/
def Job.afterCommit (j : Job) : Job :=
  if j.state = .stopping .pause then j.enter .paused else j.goOn

/-- A commit by the pass-end decision (R109, R118). -/
def State.commitPass (s : State) (l : Fin 2) (c : Coding) : State :=
  ((s.commit c.pass.job (passSource c)).setLane l none).modifyJob c.pass.job Job.afterCommit

/-- The ladder goes on with the next pass on the same lane (R106, R52, R54). -/
def State.climb (s : State) (l : Fin 2) (p : PassState) : State :=
  let next := p.pass.ladder
  s.setLane l
    (some (beginPass p.job p.slot p.band next (ladderIndex next (s.job p.job).index)))

/-- The pass-end decision (R118): halt, commit or ladder, the first that applies. -/
def State.decidePass (s : State) (l : Fin 2) (c : Coding) : State :=
  if (s.job c.pass.job).haltsHere then s.haltPass l c.pass
  else if c.pass.overMark then s.climb l c.pass
  else s.commitPass l c

/-- The end of a pass, one event with its decision (R50, R118). -/
def State.endPass (s : State) (l : Fin 2) (c : Coding) : State :=
  let done := c.finish (s.job c.pass.job).budget
  (s.modifyJob c.pass.job fun job => job.passResults done).decidePass l done

/-- The lane goes on to its next column (R45). -/
def State.nextColumn (s : State) (l : Fin 2) (c : Coding) : State :=
  (s.setLane l (some { c.pass with column := c.pass.column + 1 })).modifyJob c.pass.job fun job =>
    { job with reservation := job.reservation.map fun r => { r with area := c.area } }

/-- The lane's column is coded and steered (R29, R45). -/
def State.columnCoded (s : State) (p : PassState) (profile : Profile) (b : BandSlot)
    (r : Reservation) : Coding :=
  let job := s.job p.job
  let coded := Coding.codeColumn profile job.budget b { pass := p, area := r.area }
  { coded with pass := coded.pass.steer job.budget job.columns }

/-- A BUSY lane finishes its column (R45): the pass ends early under R49, ends after column K - 1, or
goes on. -/
def columnEventOf (l : Fin 2) (s : State) : Option State :=
  match s.lanes[l] with
  | none => none
  | some p =>
    match s.slots[p.slot], s.profileOf p.job, (s.job p.job).reservation with
    | some b, some profile, some r =>
      let c := s.columnCoded p profile b r
      if c.pass.overMark || decide ((s.job p.job).columns ≤ c.pass.column + 1) then
        some (s.endPass l c)
      else some (s.nextColumn l c)
    | _, _, _ => none

/-- COLUMN_EVENT (R45). -/
def execColumnEvent (l : Fin 2) (s : State) : Host.Outcome State Fault Refusal :=
  .next (occur (columnEventOf l) s)

end Sys2Proof.Machine
end

