-- ==== Sys2Proof/Machine/Store.lean ====
section
/-! DEFINITION. The profile store (R148): the CRC of a record, what a write that ends well, fails or is
cut off leaves, and what a read returns. -/

namespace Sys2Proof.Config

/-- The name and settings a record holds after a write of new ones that failed or was cut off, over the
old ones if there were any. R148 says of them only that their check fails (log 29). -/
opaque contentsLeft : Option Machine.Profile → Machine.Profile → Machine.Profile

/-- The CRC a record then holds, wherever that makes its check fail (R148, log 29). -/
opaque crcLeft : Option Machine.Profile → Machine.Profile → BitVec 16

end Sys2Proof.Config

namespace Sys2Proof.Machine

/-- The CRC-16 over a record's name and settings (R148). DESIGN CHOICE: over their bytes as PROFILE READ
reports them (R173); the spec gives a record no layout (log 29). -/
def Profile.crc (p : Profile) : BitVec 16 := crc16 p.report

/-- The name and settings a WRITTEN record holds (R148). -/
def StoreRecord.contents : StoreRecord → Option Profile
  | .blank => none
  | .written p _ => some p

/-- What a record write that ends well leaves (R148): the settings and their CRC. -/
def recordWritten (p : Profile) : StoreRecord := .written p p.crc

/-- What a record write that failed or was cut off leaves (R148): contents that are not known, with a
CRC that is not theirs (log 29). -/
def recordBroken (old : StoreRecord) (p : Profile) : StoreRecord :=
  let left := Config.contentsLeft old.contents p
  let crc := Config.crcLeft old.contents p
  .written left (if crc = left.crc then ~~~crc else crc)

/-- What a record write leaves, by its read-back check (R148). -/
def recordAfterWrite (old : StoreRecord) (p : Profile) (passes : Bool) : StoreRecord :=
  if passes then recordWritten p else recordBroken old p

/-- The store with one record replaced; slot 0 has none (R148). -/
def State.setRecord (s : State) (k : Fin 8) (r : StoreRecord) : State :=
  if h : 1 ≤ k.val then { s with store := s.store.set (k.val - 1) r (by omega) } else s

/-- A record write in progress is cut off: its record is left failing its check (R148, R152, R153). -/
def State.cutOffWrite (s : State) : State :=
  match s.saving with
  | some w =>
    { s.setRecord w.slot (recordBroken (s.record w.slot) w.contents) with saving := none }
  | none => s

/-- What a record read returns (R148): BLANK, or the contents and whether their check passed. -/
inductive ReadResult where
  | blank
  | contents (p : Profile) (passed : Bool)
  deriving DecidableEq, Repr

/-- The read of a record (R148): one never written is BLANK; of another the CRC held is compared with the
CRC of the contents. A record may have decayed, which the operand tells of each read: `passes` is false
when it has (log 5). -/
def readRecord (r : StoreRecord) (passes : Bool) : ReadResult :=
  match r with
  | .blank => .blank
  | .written p crc => .contents p (passes && crc == p.crc)

end Sys2Proof.Machine
end

