-- ==== Sys2Proof/Machine/Resets.lean ====
section
/-! DEFINITION. Power, the three resets and the end of the start-up load's reads (R99, R114, R148,
R152, R153, R168, R177, R179, R180). -/

namespace Sys2Proof.Machine

/-- Attempts a recall or a start-up load makes of one record (R151, R152). -/
def maxAttempts : Nat := 4

/-- The state with the content of a profile slot replaced. -/
def State.setContent (s : State) (k : Fin 8) (c : ProfileContent) : State :=
  { s with profiles := s.profiles.set k { s.profiles[k] with content := c } }

/-! ### Power-on and pin reset -/

/-- The state a power-on or pin reset leaves, whatever was before (R66, R99, R114, R152, R168, R177):
the reset values, with the cause, the straps sampled at its end, and the profile store, in which a
write in progress has been cut off. -/
def State.boot (s : State) (cause : ResetCause) (straps : Straps) : State :=
  { State.reset with
    pending := s.pending
    store := s.cutOffWrite.store
    resetCause := cause
    straps := straps }

/-- POWER_ON_RESET (R168, R177). -/
def execPowerOnReset (straps : Straps) (s : State) : Host.Outcome State Fault Refusal :=
  .next (s.boot .power straps)

/-- PIN_RESET, under power (R177). -/
def execPinReset (straps : Straps) (s : State) : Host.Outcome State Fault Refusal :=
  .next (if s.powered then s.boot .pin straps else s)

/-- LOSS_OF_POWER: the part stops, and a record write in progress is cut off; the store keeps its
records (R148). What the rest of the state holds without power is not observable, since a power-on
reset sets all of it; it is left as it was (log 7). -/
def execLossOfPower (s : State) : Host.Outcome State Fault Refusal :=
  .next (if s.powered then { s.cutOffWrite with powered := false } else s)

/-! ### The start-up load (R152) -/

/-- The load goes on to the next slot, or ends after slot 7: the STARTUP mark is set (R152, R180). -/
def State.loadNext (s : State) (k : Fin 8) : State :=
  if h : k.val + 1 < 8 then
    { s with startup := some { slot := ⟨k.val + 1, h⟩, attempts := 0 } }
  else { s with startup := none, marks := { s.marks with startup := true } }

/-- The end of a read of the start-up load (R152). -/
def State.loadRead (s : State) (load : StartupLoad) (passes : Bool) : State :=
  match readRecord (s.record load.slot) passes with
  | .blank => (s.setContent load.slot .empty).loadNext load.slot
  | .contents p true => (s.setContent load.slot (.ready p)).loadNext load.slot
  | .contents _ false =>
    if load.attempts + 1 < maxAttempts then
      { s with startup := some { load with attempts := load.attempts + 1 } }
    else
      { s.setContent load.slot .empty with
        failedSlots := s.failedSlots ||| jobBit load.slot }.loadNext load.slot

/-! ### RECALL's reads (R151) -/

/-- The recall ends and its reply is posted; the decoder is free again (R151). -/
def State.endRecall (s : State) (k : Fin 8) (code : ReplyCode) (more : List Byte) : State :=
  { s with inHand := .nothing }.post kindProfileRecall (byte k) code (s.profileHead k ++ more)

/-- The end of a read of a RECALL (R151). -/
def State.recallRead (s : State) (k : Fin 8) (attempts : Nat) (passes : Bool) : State :=
  match readRecord (s.record k) passes with
  | .blank => s.endRecall k .profileEmpty []
  | .contents p true => (s.setContent k (.ready p)).endRecall k .ok p.nameReport
  | .contents _ false =>
    if attempts + 1 < maxAttempts then { s with inHand := .recall k (attempts + 1) }
    else s.endRecall k .storeFault []

/-- A store read ends: of the start-up load, or of a RECALL in hand (R148). -/
def recordReadEvent (passes : Bool) (s : State) : Option State :=
  match s.startup with
  | some load => some (s.loadRead load passes)
  | none =>
    match s.inHand with
    | .recall k attempts => some (s.recallRead k attempts passes)
    | _ => none

/-- RECORD_READ (R148, R151, R152). -/
def execRecordRead (passes : Bool) (s : State) : Host.Outcome State Fault Refusal :=
  .next (occur (recordReadEvent passes) s)

/-! ### Soft reset (R179) -/

/-- An accepted SOFT RESET has no reply and awaits its event (R159, R179). -/
def softResetTaken (_f : Frame) (s : State) : State := { s with inHand := .softReset }

/-- SOFT_RESET (R179). -/
def execSoftReset (s : State) : Host.Outcome State Fault Refusal :=
  .next (occur (takeHead (isKind kindSoftReset) (deviceRequest 0 softResetTaken)) s)

/-- The values of the soft reset (R66, R99, R114, R153, R168, R179, R180). The profile slots' RAM
copies, the store, but for a write cut off, and the link rate are kept. A frame in reception is
discarded, and the receiver waits for idle. -/
def State.softResetValues (s : State) : State :=
  { s.cutOffWrite with
    jobs := Vector.replicate 8 freeJob
    slots := Vector.replicate 24 none
    lanes := Vector.replicate 2 none
    candidates := []
    records := []
    commitCount := 0
    profiles := Vector.ofFn fun k => { s.profiles[k] with lastSave := none }
    lastSave := none
    startup := none
    failedSlots := 0
    cutOffSlot := s.saving.map SaveWrite.slot
    receiver := if s.reception.isSome then .awaitIdle else .waiting
    reception := none
    inbound := []
    replies := []
    inHand := .nothing
    errorCounter := 0
    threshold := 31
    totals := {}
    quiet := false
    marks := { startup := true }
    resetCause := .request
    transmitter := none }

/-- The soft reset takes effect once the frame in transmission has completed (R179). -/
def softResetEvent (s : State) : Option State :=
  if s.inHand = .softReset ∧ s.transmitter = none then some s.softResetValues else none

/-- SOFT_RESET_EVENT (R179). -/
def execSoftResetEvent (s : State) : Host.Outcome State Fault Refusal :=
  .next (occur softResetEvent s)

end Sys2Proof.Machine
end

