-- ==== Sys2Proof/Machine/ProfileRequests.lean ====
section
/-! DEFINITION. The profile requests and the completion of a save (R144 to R151). -/

namespace Sys2Proof.Machine

/-- A profile reply carries the slot's state, in-use count and save-in-flight mark as the request left
them, ahead of its own items (R144). -/
def State.answerProfile (s : State) (k : Fin 8) (f : Frame) (code : ReplyCode) (more : List Byte) :
    State :=
  s.answer f code (s.profileHead k ++ more)

/-! ### PROFILE WRITE (R145) -/

/-- One group's values, as PROFILE WRITE carries them: the settings with the group replaced, and
whether a value was clamped. -/
structure GroupWrite where
  settings : Profile
  clamped : Bool
  deriving DecidableEq, Repr

/-- A base step: a byte, clamped to 1 to 255 (R145, R174). -/
def baseStepAt (p : List Byte) (offset : Nat) : Nat := clampNat 1 255 (field p offset 1)

/-- The STEPS group (R145, R174). -/
def writeSteps (old : Profile) (p : List Byte) : GroupWrite where
  settings :=
    { old with
      y := { dc := baseStepAt p 1, s3 := baseStepAt p 2, s2 := baseStepAt p 3, s1 := baseStepAt p 4 }
      c := { dc := baseStepAt p 5, s3 := baseStepAt p 6, s2 := baseStepAt p 7, s1 := baseStepAt p 8 } }
  clamped := ((p.drop 1).take 8).any (· == 0)

/-- A profile with the settings of one zone replaced. -/
def Profile.setZone (p : Profile) (zone : Zone) (z : ZoneSettings) : Profile :=
  match zone with
  | .brightDetail => { p with brightDetail := z }
  | .brightFlat => { p with brightFlat := z }
  | .skin => { p with skin := z }
  | .shadow => { p with shadow := z }
  | .mid => { p with mid := z }

/-- The ZONE group (R145, R174): a zone above 4 and a mode selector naming no mode are refused, at
payload offsets 1 and 4. -/
def writeZone (old : Profile) (p : List Byte) : Except Nat GroupWrite :=
  match zoneOfCode (field p 1 1) with
  | none => .error 1
  | some zone =>
    match roundingOf (field p 4 1) with
    | none => .error 4
    | some rounding =>
      let weight := field p 2 1
      let ceiling := field p 3 1
      .ok
        { settings :=
            old.setZone zone
              { weight := clampNat 8 64 weight, ceiling := clampNat 0 63 ceiling, rounding }
          clamped := clampNat 8 64 weight != weight || clampNat 0 63 ceiling != ceiling }

/-- A T value of the THRESHOLDS group, clamped to 0 to 255 (R145). -/
def thresholdAt (p : List Byte) (offset : Nat) : Nat :=
  (clampInt 0 255 (signedField p offset)).toNat

/-- A skin bound of the THRESHOLDS group, clamped to -255 to 255 (R145). -/
def skinBoundAt (p : List Byte) (offset : Nat) : Int :=
  clampInt (-255) 255 (signedField p offset)

/-- The THRESHOLDS group (R145, R174). The values are not checked against one another. -/
def writeThresholds (old : Profile) (p : List Byte) : GroupWrite where
  settings :=
    { old with
      tHi := thresholdAt p 1
      tLo := thresholdAt p 3
      tSpan := thresholdAt p 5
      uLo := skinBoundAt p 7
      uHi := skinBoundAt p 9
      vLo := skinBoundAt p 11
      vHi := skinBoundAt p 13 }
  clamped :=
    [1, 3, 5].any (fun o => clampInt 0 255 (signedField p o) != signedField p o) ||
    [7, 9, 11, 13].any (fun o => skinBoundAt p o != signedField p o)

/-- Characters a profile name keeps (R141, R145). -/
def maxNameLength : Nat := 12

/-- The NAME/DEFAULT group (R145, R174). -/
def writeName (old : Profile) (p : List Byte) : GroupWrite where
  settings :=
    { old with
      startIndex := clampNat 0 63 (field p 1 1)
      name := (p.drop 2).take maxNameLength }
  clamped := decide (63 < field p 1 1) || decide (maxNameLength < (p.drop 2).length)

/-- Writes the group a payload carries, whose length has been checked; a refusal names the offset of
the field that failed (R145, R173, R174). -/
def writeGroup (old : Profile) (p : List Byte) : Except Nat GroupWrite :=
  match field p 0 1 with
  | 0 => .ok (writeSteps old p)
  | 1 => writeZone old p
  | 2 => .ok (writeThresholds old p)
  | 3 => .ok (writeName old p)
  | _ => .error 0

/-- The settings of a zone. -/
def Profile.zoneReport (p : Profile) (zone : Zone) : List Byte := (p.zone zone).report

/-- The values of a group as the slot now holds them: the bytes after the group byte (R145, R173). -/
def groupReport (p : Profile) (payload : List Byte) : List Byte :=
  match field payload 0 1 with
  | 0 => p.y.report ++ p.c.report
  | 1 =>
    match zoneOfCode (field payload 1 1) with
    | some zone => byte zone.code :: p.zoneReport zone
    | none => []
  | 2 => p.thresholdsReport
  | _ => byte p.startIndex :: p.name

/-- The settings a WRITE starts from: an EMPTY slot is first filled from slot 0 (R142, R145). -/
def ProfileContent.orFactory (c : ProfileContent) : Profile :=
  (c.settings).getD factoryProfile

/-- PROFILE WRITE, once its unit names a slot (R144, R145, R174). -/
def profileWriteTaken (k : Fin 8) (f : Frame) (s : State) : State :=
  if k = 0 then s.answerProfile k f .protectedSlot []
  else if 0 < s.inUse k then s.answerProfile k f .profileInUse []
  else if s.saveInFlight k then s.answerProfile k f .busy []
  else
    match groupLengthOk (field f.payload 0 1) f.payload.length with
    | none => s.answerProfile k f .badField [0]
    | some false => s.answerProfile k f .badLength []
    | some true =>
      match writeGroup (s.profiles[k]).content.orFactory f.payload with
      | .error offset => s.answerProfile k f .badField [byte offset]
      | .ok w =>
        (s.setContent k (.draft w.settings)).answerProfile k f (clampCode w.clamped)
          (groupReport w.settings f.payload)

/-- PROFILE_WRITE (R145). -/
def execProfileWrite (s : State) : Host.Outcome State Fault Refusal :=
  .next (occur (takeHead (isKind kindProfileWrite)
    (profileRequest (fun n => 1 ≤ n && n ≤ 257) profileWriteTaken)) s)

/-! ### COMMIT, READ, SAVE, RECALL -/

/-- The first check of COMMIT that fails, as the offset of its bound in the THRESHOLDS group (R146,
R173). -/
def commitFailure (p : Profile) : Option Nat :=
  if p.tHi ≤ p.tLo then some 3
  else if p.uHi < p.uLo then some 7
  else if p.vHi < p.vLo then some 11
  else none

/-- PROFILE COMMIT (R144, R146). -/
def profileCommitTaken (k : Fin 8) (f : Frame) (s : State) : State :=
  match (s.profiles[k]).content with
  | .empty => s.answerProfile k f .profileEmpty []
  | .ready _ => s.answerProfile k f .ok []
  | .draft p =>
    match commitFailure p with
    | some offset => s.answerProfile k f .badField [byte offset]
    | none => (s.setContent k (.ready p)).answerProfile k f .ok []

/-- PROFILE_COMMIT (R146). -/
def execProfileCommit (s : State) : Host.Outcome State Fault Refusal :=
  .next (occur (takeHead (isKind kindProfileCommit)
    (profileRequest (· == 0) profileCommitTaken)) s)

/-- PROFILE READ (R147): the slot as it stands; EMPTY has no settings. -/
def profileReadTaken (k : Fin 8) (f : Frame) (s : State) : State :=
  s.answerProfile k f .ok
    (saveResultByte (s.profiles[k]).lastSave ::
      match (s.profiles[k]).content.settings with
      | some p => p.report
      | none => [])

/-- PROFILE_READ (R147). -/
def execProfileRead (s : State) : Host.Outcome State Fault Refusal :=
  .next (occur (takeHead (isKind kindProfileRead) (profileRequest (· == 0) profileReadTaken)) s)

/-- The SAVE event (R149): the write begins with the settings as they stand, and the last save result
becomes none. -/
def State.beginSave (s : State) (k : Fin 8) (p : Profile) : State :=
  { s with
    saving := some { slot := k, contents := p }
    profiles := s.profiles.set k { s.profiles[k] with lastSave := none } }

/-- PROFILE SAVE (R144, R149). -/
def profileSaveTaken (k : Fin 8) (f : Frame) (s : State) : State :=
  if k = 0 then s.answerProfile k f .protectedSlot []
  else if s.saving.isSome then s.answerProfile k f .busy []
  else
    match (s.profiles[k]).content with
    | .ready p => (s.beginSave k p).answerProfile k f .ok []
    | _ => s.answerProfile k f .profileNotReady []

/-- PROFILE_SAVE (R149). -/
def execProfileSave (s : State) : Host.Outcome State Fault Refusal :=
  .next (occur (takeHead (isKind kindProfileSave) (profileRequest (· == 0) profileSaveTaken)) s)

/-- PROFILE RECALL (R144, R151): its first read attempt begins, and the decoder waits. -/
def profileRecallTaken (k : Fin 8) (f : Frame) (s : State) : State :=
  if k = 0 then s.answerProfile k f .protectedSlot []
  else if 0 < s.inUse k then s.answerProfile k f .profileInUse []
  else if s.saveInFlight k then s.answerProfile k f .busy []
  else { s with inHand := .recall k 0 }

/-- PROFILE_RECALL (R151). -/
def execProfileRecall (s : State) : Host.Outcome State Fault Refusal :=
  .next (occur (takeHead (isKind kindProfileRecall)
    (profileRequest (· == 0) profileRecallTaken)) s)

/-! ### The completion of a save (R150) -/

/-- The result of a record write (R148, R150). -/
def saveResultOf (passes : Bool) : SaveResult := if passes then .ok else .storeFault

/-- The record write of a save ends (R150): the mark is cleared, the slot's and the device's last save
results are set, and SAVE_DONE is marked. -/
def saveCompletionEvent (passes : Bool) (s : State) : Option State :=
  match s.saving with
  | none => none
  | some w =>
    let r := saveResultOf passes
    some
      { s.setRecord w.slot (recordAfterWrite (s.record w.slot) w.contents passes) with
        saving := none
        profiles := s.profiles.set w.slot { s.profiles[w.slot] with lastSave := some r }
        lastSave := some (w.slot, r)
        marks := { s.marks with saveDone := true } }

/-- SAVE_COMPLETION (R150). -/
def execSaveCompletion (passes : Bool) (s : State) : Host.Outcome State Fault Refusal :=
  .next (occur (saveCompletionEvent passes) s)

end Sys2Proof.Machine
end

