-- ==== Sys2Proof/Machine/Link.lean ====
section
/-! DEFINITION. The frame link (spec/10): characters, breaks, frames and their close, the error counter
and the quiet state, the link requests, UNKNOWN_KIND, INQUIRE, and the end of a transmission. -/

namespace Sys2Proof.Machine

/-! ### PAUSE, as a request and on entry to the quiet state (R72, R161) -/

/-- The effect of PAUSE on a context (R72): a RUNNING job becomes PAUSED, or STOPPING with stop
reason PAUSE when a pass is in flight; any other state is left. -/
def Job.pause (j : Job) (passInFlight : Bool) : Job :=
  if j.state = .running then
    if passInFlight then j.enter (.stopping .pause) else j.enter .paused
  else j

/-- Entry into the quiet state (R161): a PAUSE for every RUNNING job, and the LINK_QUIET mark. -/
def State.enterQuiet (s : State) : State :=
  { s.mapJobs (fun j job => job.pause (s.passInFlight j)) with
    quiet := true
    marks := { s.marks with linkQuiet := true } }

/-! ### Totals and the error counter (R159, R160) -/

/-- A 16-bit saturating total rises by one (R159). -/
def riseTotal (n : Nat) : Nat := min 65535 (n + 1)

/-- A bad frame's increment of the link error counter (R160): below the threshold it rises; at the
threshold it overflows, and the link enters the quiet state if it is not quiet already. -/
def State.linkIncrement (s : State) : State :=
  if s.errorCounter < s.threshold then { s with errorCounter := s.errorCounter + 1 }
  else if s.quiet then s
  else s.enterQuiet

/-! ### Characters (R154) -/

/-- Outcome of a character (R154). -/
inductive CharacterOutcome where
  | falseStart
  | good (data : Byte)
  | framingError (data : Byte)
  | breakCharacter
  deriving DecidableEq, Repr

/-- The eight data bits of a character as a byte, least significant first (R154). -/
def characterData (c : CharacterSamples) : Byte :=
  flagByte (((c.toList.drop 1).take 8).map BitSamples.majority)

/-- Outcome of a character by the majorities of its bits (R154). -/
def characterOutcome (samples : CharacterSamples) : CharacterOutcome :=
  if samples[0].majority then .falseStart
  else if samples[9].majority then .good (characterData samples)
  else if characterData samples = 0 then .breakCharacter
  else .framingError (characterData samples)

/-- A character is noisy when the samples of any of its bits do not all agree (R154). -/
def characterNoisy (c : CharacterSamples) : Bool := c.toList.any BitSamples.disagrees

/-- A byte joins the frame in reception, or begins one; a frame of 4,103 bytes keeps no further one
(R156). -/
def receiveByte (r : Option Reception) (b : Byte) (framing noisy : Bool) : Reception :=
  match r with
  | none => { bytes := [b], framingError := framing, noisy := noisy }
  | some r =>
    { bytes := if r.bytes.length ≤ maxFrameBytes then r.bytes ++ [b] else r.bytes
      framingError := r.framingError || framing
      noisy := r.noisy || noisy }

/-- A break (R155): the frame in reception is discarded, the break total rises, and the receiver
waits for one character time of mark. -/
def State.breakReceived (s : State) : State :=
  { s with
    reception := none
    receiver := .awaitIdle
    totals := { s.totals with breaks := riseTotal s.totals.breaks } }

/-- A character ends (R154). It can come only while the receiver waits for a start bit. -/
def characterEvent (c : CharacterSamples) (s : State) : Option State :=
  if s.receiver = .waiting then
    match characterOutcome c with
    | .falseStart => some s
    | .good b =>
      some { s with reception := some (receiveByte s.reception b false (characterNoisy c)) }
    | .framingError b =>
      some { s with
        reception := some (receiveByte s.reception b true (characterNoisy c))
        receiver := .awaitMark }
    | .breakCharacter => some s.breakReceived
  else none

/-- CHARACTER (R154). -/
def execCharacter (c : CharacterSamples) (s : State) : Host.Outcome State Fault Refusal :=
  .next (occur (characterEvent c) s)

/-- The break character (R155). DESIGN CHOICE: only a receiver that waits for a start bit takes one, so a
break while it waits for idle after a soft reset discarded a reception (R168) is not counted (log 17). -/
def breakEvent (s : State) : Option State :=
  if s.receiver = .waiting then some s.breakReceived else none

/-- BREAK (R155). -/
def execBreak (s : State) : Host.Outcome State Fault Refusal :=
  .next (occur breakEvent s)

/-- The line has returned to mark, and the receiver waits for a start bit again (R154, R155, R168).
A frame in reception stays open. -/
def returnToMarkEvent (s : State) : Option State :=
  if s.receiver = .waiting then none else some { s with receiver := .waiting }

/-- RETURN_TO_MARK (R155). -/
def execReturnToMark (s : State) : Host.Outcome State Fault Refusal :=
  .next (occur returnToMarkEvent s)

/-! ### The close of a frame (R156, R157, R158) -/

/-- A bad frame (R157): it is discarded, the bad total rises and the link error counter receives an
increment. -/
def State.badFrame (s : State) : State :=
  { s with totals := { s.totals with bad := riseTotal s.totals.bad } }.linkIncrement

/-- A good frame (R158): it joins the inbound queue, the counter falls and a noisy frame is counted;
or, at a full queue, it is dropped and the overrun total rises. -/
def State.goodFrame (s : State) (f : Frame) (noisy : Bool) : State :=
  if s.inbound.length < Config.inboundCapacity then
    { s with
      inbound := s.inbound ++ [f]
      errorCounter := s.errorCounter - 1
      totals := if noisy then { s.totals with noisy := riseTotal s.totals.noisy } else s.totals }
  else { s with totals := { s.totals with overrun := riseTotal s.totals.overrun } }

/-- Idle closes the frame in reception and checks it (R156, R157). Idle is the line at mark, so a
receiver that waited for it after a framing error waits for a start bit (log 16). -/
def frameCloseEvent (s : State) : Option State :=
  match s.reception with
  | none => none
  | some r =>
    let s' := { s with reception := none, receiver := .waiting }
    match if r.framingError then none else frameOfBytes r.bytes with
    | some f => some (s'.goodFrame f r.noisy)
    | none => some s'.badFrame

/-- FRAME_CLOSE (R156, R157, R158). -/
def execFrameClose (s : State) : Host.Outcome State Fault Refusal :=
  .next (occur frameCloseEvent s)

/-! ### Device requests (R159, R160, R162, R178) -/

/-- A kind code that names no request kind (R159). -/
def isUnknownKind (f : Frame) : Bool := !requestKinds.contains f.kind

/-- UNKNOWN_KIND (R159): the frame is refused, with no data (R173). -/
def execUnknownKind (s : State) : Host.Outcome State Fault Refusal :=
  .next (occur (takeHead isUnknownKind fun f s => s.answer f .unknownKind []) s)

/-- INQUIRE (R178). -/
def execInquire (s : State) : Host.Outcome State Fault Refusal :=
  .next (occur (takeHead (isKind kindInquire)
    (deviceRequest 0 fun f s => s.answer f .ok s.inquireReport)) s)

/-- A new threshold (R160): 0 is clamped to 1, and the counter is lowered to it when above. -/
def linkSetTaken (f : Frame) (s : State) : State :=
  let t := max 1 (field f.payload 0 1)
  let s' := { s with threshold := t, errorCounter := min s.errorCounter t }
  s'.answer f (clampCode (field f.payload 0 1 == 0)) [byte s'.threshold, byte s'.errorCounter]

/-- LINK_SET (R160). -/
def execLinkSet (s : State) : Host.Outcome State Fault Refusal :=
  .next (occur (takeHead (isKind kindLinkSet) (deviceRequest 1 linkSetTaken)) s)

/-- The clear (R162): counter and totals become 0; a quiet link leaves the quiet state and the
LINK_QUIET mark is set. -/
def linkClearTaken (f : Frame) (s : State) : State :=
  let s' :=
    { s with
      errorCounter := 0
      totals := {}
      quiet := false
      marks := { s.marks with linkQuiet := s.marks.linkQuiet || s.quiet } }
  s'.answer f .ok ([flagByte [s'.quiet], byte s'.errorCounter] ++ s'.totals.report)

/-- LINK_CLEAR (R162). -/
def execLinkClear (s : State) : Host.Outcome State Fault Refusal :=
  .next (occur (takeHead (isKind kindLinkClear) (deviceRequest 0 linkClearTaken)) s)

/-- LINK_STATUS (R162). -/
def execLinkStatus (s : State) : Host.Outcome State Fault Refusal :=
  .next (occur (takeHead (isKind kindLinkStatus)
    (deviceRequest 0 fun f s => s.answer f .ok s.linkReport)) s)

/-! ### The end of a transmission (R111, R163, R164) -/

/-- The oldest record has sent that many more bytes; with its last byte it leaves the list (R111). -/
def advanceRecords (n : Nat) : List OutRecord → List OutRecord
  | [] => []
  | r :: rest =>
    if r.bytes.length ≤ r.sent + n then rest else { r with sent := r.sent + n } :: rest

/-- A frame and its trailing idle end (R164): a reply leaves the reply queue (R163), a segment's bytes
return to free space (R111), and the transmitter is free. The arbiter's next choice follows in the
same step. -/
def transmitEndEvent (s : State) : Option State :=
  match s.transmitter with
  | none => none
  | some t =>
    match t.sending with
    | .reply => some { s with transmitter := none, replies := s.replies.tail }
    | .notice => some { s with transmitter := none }
    | .segment n => some { s with transmitter := none, records := advanceRecords n s.records }

/-- TRANSMIT_END (R164). -/
def execTransmitEnd (s : State) : Host.Outcome State Fault Refusal :=
  .next (occur transmitEndEvent s)

end Sys2Proof.Machine
end

