-- ==== Sys2Proof/Machine/Timers.lean ====
section
/-! DEFINITION. The pace timers (spec/08): ticks, expiries, LATE and RETIME. -/

namespace Sys2Proof.Machine

/-! ### LATE (R120) -/

/-- The stop a LATE whose halt is enabled makes of a job (R120). -/
def Job.lateHalt (j : Job) (passInFlight : Bool) : Job :=
  match j.state with
  | .running => if passInFlight then j.enter (.stopping .halt) else j.enter .halted
  | .stopping .pause => j.enter (.stopping .halt)
  | .paused => j.enter .halted
  | _ => j

/-- LATE is raised for a job (R116, R120): recorded, and with its halt enabled the job is stopped. -/
def Job.raiseLate (j : Job) (passInFlight : Bool) : Job :=
  let raised := j.raise .late
  if raised.halts.late then raised.lateHalt passInFlight else raised

/-! ### Counting (R132) -/

/-- The timer is loaded and its prescaler restarts: an interval begins (R133, R134, R139). -/
def Timer.load (t : Timer) (i : Interval) : Timer :=
  { t with interval := i, count := i.reload, prescaler := 0 }

/-- A prescaled tick that is no expiry: the count falls by one (R132). -/
def Timer.tick (t : Timer) : Timer := { t with count := t.count - 1, prescaler := 0 }

/-- The next prescaled tick takes the count of a running timer to zero: it is an expiry (R132). -/
def Timer.expiresNext (t : Timer) : Bool := t.running && decide (t.count = 1)

/-- START of the timer (R133): a timer in mode OFF stays stopped with its count at 0. -/
def Timer.start (t : Timer) : Timer :=
  match t.mode with
  | .off => t
  | _ => { t.load t.interval with running := true }

/-! ### Expiries (R134, R135) -/

/-- The timer after a PACED expiry (R134): at D = N it stops with its count at 0 and takes a buffered
reload with no further effect; otherwise the next interval begins. -/
def Timer.afterPaced (t : Timer) (last : Bool) : Timer :=
  let i := t.buffered.getD t.interval
  if last then
    { t with interval := i, buffered := none, count := 0, prescaler := 0, running := false }
  else { t.load i with buffered := none }

/-- A PACED expiry of a job (R134): D rises, LATE is raised when E is below D, and the timer reloads
or stops. -/
def Job.pacedExpiry (j : Job) (passInFlight : Bool) : Job :=
  let risen := { j with due := j.due + 1 }
  let judged := if risen.emitted < risen.due then risen.raiseLate passInFlight else risen
  { judged with timer := judged.timer.afterPaced (judged.due == judged.bands) }

/-- A PAGE expiry of a job (R135): D becomes N, LATE is raised when E is below N, and the timer stops
with its count at 0. -/
def Job.pageExpiry (j : Job) (passInFlight : Bool) : Job :=
  let risen := { j with due := j.bands }
  let judged := if risen.emitted < risen.bands then risen.raiseLate passInFlight else risen
  { judged with timer := { judged.timer with count := 0, prescaler := 0, running := false } }

/-- A prescaled tick of a job's timer, expiry or not (R132). -/
def Job.prescaledTick (j : Job) (passInFlight : Bool) : Job :=
  if j.timer.expiresNext then
    match j.timer.mode with
    | .paced => j.pacedExpiry passInFlight
    | .page => j.pageExpiry passInFlight
    | .off => j
  else if j.timer.running then { j with timer := j.timer.tick }
  else j

/-- The PACED expiry occurs at the tick that takes the count to zero (R132, R134). -/
def pacedExpiryEvent (j : Fin 8) (s : State) : Option State :=
  if (s.job j).timer.expiresNext ∧ (s.job j).timer.mode = .paced then
    some (s.modifyJob j fun job => job.pacedExpiry (s.passInFlight j))
  else none

/-- PACED_EXPIRY (R134). -/
def execPacedExpiry (j : Fin 8) (s : State) : Host.Outcome State Fault Refusal :=
  .next (occur (pacedExpiryEvent j) s)

/-- The PAGE expiry occurs at the tick that takes the count to zero (R132, R135). -/
def pageExpiryEvent (j : Fin 8) (s : State) : Option State :=
  if (s.job j).timer.expiresNext ∧ (s.job j).timer.mode = .page then
    some (s.modifyJob j fun job => job.pageExpiry (s.passInFlight j))
  else none

/-- PAGE_EXPIRY (R135). -/
def execPageExpiry (j : Fin 8) (s : State) : Host.Outcome State Fault Refusal :=
  .next (occur (pageExpiryEvent j) s)

/-- A prescaled tick after which the count is not zero (R132). -/
def prescaledTickEvent (j : Fin 8) (s : State) : Option State :=
  if (s.job j).timer.running ∧ 2 ≤ (s.job j).timer.count then
    some (s.modifyJob j fun job => { job with timer := job.timer.tick })
  else none

/-- PRESCALED_TICK (R132). -/
def execPrescaledTick (j : Fin 8) (s : State) : Host.Outcome State Fault Refusal :=
  .next (occur (prescaledTickEvent j) s)

/-! ### The base tick (R132) -/

/-- One base tick for a job's timer (R132): the prescaler of a running timer counts it, and at the
prescale a prescaled tick occurs. -/
def Job.baseTick (j : Job) (passInFlight : Bool) : Job :=
  if j.timer.running then
    if j.timer.prescaler + 1 < j.timer.interval.prescale.ticks then
      { j with timer := { j.timer with prescaler := j.timer.prescaler + 1 } }
    else j.prescaledTick passInFlight
  else j

/-- Some timer is running. -/
def State.timing (s : State) : Bool := all8.any fun j => (s.job j).timer.running

/-- One base tick of 10 microseconds, fed to all eight timers (R132, log 2). A part without power, or
with no timer running, is left as it is. -/
def State.baseTick (s : State) : State :=
  if s.powered && s.timing then
    (s.mapJobs fun j job => job.baseTick (s.passInFlight j)).settle
  else s

/-! ### RETIME (R138, R139) -/

/-- The timer after an accepted RETIME (R138, R139): replaced in OPEN; buffered when running PACED;
restarted when running PAGE; without effect when stopped. -/
def Timer.retime (t : Timer) (opened : Bool) (mode : TimerMode) (i : Interval) : Timer :=
  if opened then { t with mode := mode, interval := i }
  else if t.running then
    match t.mode with
    | .paced => { t with buffered := some i }
    | .page => t.load i
    | .off => t
  else t

/-- A refused RETIME's reply: the code, the state of the context (R61), the six timer fields (R138)
and what the refusal adds (R173). -/
def State.refuseRetime (s : State) (j : Fin 8) (f : Frame) (code : ReplyCode) (more : List Byte) :
    State :=
  s.refuseJob j f code ((s.job j).timer.report ++ more)

/-- RETIME (R138, R139). DEDUCED: when the mode and the prescale selector are both bad, the mode is
named, offset 0; R138 puts both in one check without an order (log 25). -/
def retimeTaken (j : Fin 8) (f : Frame) (s : State) : State :=
  let job := s.job j
  let r := retimeRequestOf f.payload
  if job.state = .free then s.refuseRetime j f .wrongState []
  else
    match timerModeOf r.mode, prescaleOf r.selector with
    | none, _ => s.refuseRetime j f .badField [0]
    | _, none => s.refuseRetime j f .badField [3]
    | some mode, some prescale =>
      if job.state ≠ .opened ∧ mode ≠ job.timer.mode then s.refuseRetime j f .wrongState []
      else
        let i : Interval := { reload := max 1 r.reload, prescale }
        let job' := { job with timer := job.timer.retime (job.state == .opened) mode i }
        (s.setJob j job').answer f (clampCode (r.reload == 0)) job'.timer.report

/-- RETIME (R138, R139). -/
def execRetime (s : State) : Host.Outcome State Fault Refusal :=
  .next (occur (takeHead (isKind kindRetime) (jobRequest (· == 4) retimeTaken)) s)

end Sys2Proof.Machine
end

