-- ==== Sys2Proof/Machine/JobRequests.lean ====
section
/-! DEFINITION. The job requests of spec/04: OPEN, START, PAUSE, RESUME, ABORT, CLOSE, STATUS, CLEAR
FLAGS and SET ENABLES. -/

namespace Sys2Proof.Machine

/-! ### JOB OPEN (R67 to R70) -/

/-- Two tag and mask pairs overlap: some frame tag is admitted by both (R68). -/
def tagsOverlap (t1 m1 t2 m2 : BitVec 12) : Bool := ((t1 ^^^ t2) &&& m1 &&& m2) == 0

/-- A context the tag overlap test compares, and that clashes (R68): open between OPEN and HALTED, of
another geometry, with an overlapping tag and mask. -/
def Job.clashes (j : Job) (r : OpenRequest) : Bool :=
  j.state.takesPixels && (j.width != r.width || j.height != r.height) &&
    tagsOverlap (BitVec.ofNat 12 r.tag) (BitVec.ofNat 12 r.mask) j.tag j.mask

/-- The first field of a JOB OPEN that cannot be clamped, as its payload offset (R67, R173). -/
def openFieldFailure (r : OpenRequest) : Option Nat :=
  if r.width = 0 ∨ 8192 < r.width then some 1
  else if r.height = 0 then some 3
  else if 4095 < r.tag then some 11
  else if 4095 < r.mask then some 13
  else
    match r.timer with
    | none => none
    | some t =>
      if (timerModeOf t.mode).isNone then some 18
      else if (prescaleOf t.selector).isNone then some 21
      else none

/-- The step index of an accepted JOB OPEN (R41). -/
def openIndex (p : Profile) (requested : Nat) : Nat :=
  if requested = 255 then p.startIndex else min 63 requested

/-- The timer of an accepted JOB OPEN (R69, R70, R131). -/
def openTimer (r : Option TimerRequest) : Timer :=
  match r with
  | none => idleTimer
  | some t =>
    { idleTimer with
      mode := (timerModeOf t.mode).getD .off
      interval := { reload := max 1 t.reload, prescale := (prescaleOf t.selector).getD .by1 } }

/-- Some field of an accepted JOB OPEN is clamped (R69). Taking S0 is not a clamp. -/
def openClamped (r : OpenRequest) : Bool :=
  clampBudget (columnsOf r.width) r.budget != r.budget ||
  (decide (63 < r.startIndex) && r.startIndex != 255) ||
  decide (3 < r.priority) || decide (3 < r.noticeLevel) ||
  match r.timer with
  | some t => t.reload == 0
  | none => false

/-- The context an accepted JOB OPEN fills (R69, R70). The change to OPEN sets the STATE mark as R82
gives. -/
def openedJob (k : Fin 8) (p : Profile) (r : OpenRequest) : Job :=
  { freeJob with
    profile := some k
    width := r.width
    height := r.height
    columns := columnsOf r.width
    bands := bandsOf r.height
    budget := clampBudget (columnsOf r.width) r.budget
    index := openIndex p r.startIndex
    priority := min 3 r.priority
    tag := BitVec.ofNat 12 r.tag
    mask := BitVec.ofNat 12 r.mask
    halts := r.halts
    noticeLevel := min 3 r.noticeLevel
    noticeKinds := r.noticeKinds
    timer := openTimer r.timer }.enter .opened

/-- The effective values an accepted JOB OPEN reports (R69): budget, start index, priority, notice
level, reload, K, N and F(K). -/
def Job.openReport (j : Job) : List Byte :=
  leBytes 3 j.budget ++ [byte j.index, byte j.priority, byte j.noticeLevel] ++
  leBytes 2 j.timer.interval.reload ++ leBytes 2 j.columns ++ leBytes 2 j.bands ++
  leBytes 3 (budgetFloor j.columns)

/-- JOB OPEN (R67, R68, R69, R70). -/
def jobOpenTaken (j : Fin 8) (f : Frame) (s : State) : State :=
  let r := openRequestOf f.payload
  if (s.job j).state ≠ .free then s.refuseJob j f .wrongState []
  else
    match index8 r.profile with
    | none => s.refuseJob j f .badField [0]
    | some k =>
      match (s.profiles[k]).content with
      | .empty => s.refuseJob j f .profileEmpty []
      | .draft _ => s.refuseJob j f .profileNotReady []
      | .ready p =>
        match openFieldFailure r with
        | some offset => s.refuseJob j f .badField [byte offset]
        | none =>
          match all8.find? fun i => (s.job i).clashes r with
          | some i => s.refuseJob j f .geometryClash [byte i]
          | none =>
            (s.setJob j (openedJob k p r)).answer f (clampCode (openClamped r))
              (openedJob k p r).openReport

/-- JOB_OPEN (R67). -/
def execJobOpen (s : State) : Host.Outcome State Fault Refusal :=
  .next (occur (takeHead (isKind kindJobOpen) (jobRequest openLengths.contains jobOpenTaken)) s)

/-! ### START, PAUSE, RESUME -/

/-- An accepted job request that reports the state it left (R61). -/
def State.answerState (s : State) (j : Fin 8) (f : Frame) : State :=
  s.answer f .ok [(s.job j).state.code]

/-- START (R71). -/
def jobStartTaken (j : Fin 8) (f : Frame) (s : State) : State :=
  if (s.job j).state ≠ .opened then s.refuseJob j f .wrongState []
  else if s.quiet then s.refuseJob j f .linkQuiet []
  else
    (s.modifyJob j fun job => { job with timer := job.timer.start }.enter .running).answerState j f

/-- JOB_START (R71). -/
def execJobStart (s : State) : Host.Outcome State Fault Refusal :=
  .next (occur (takeHead (isKind kindJobStart) (jobRequest (· == 0) jobStartTaken)) s)

/-- The states in which PAUSE is taken (R72). -/
def JobState.takesPause : JobState → Bool
  | .running => true
  | .stopping _ => true
  | .paused => true
  | _ => false

/-- PAUSE (R72). -/
def jobPauseTaken (j : Fin 8) (f : Frame) (s : State) : State :=
  if (s.job j).state.takesPause then
    (s.modifyJob j fun job => job.pause (s.passInFlight j)).answerState j f
  else s.refuseJob j f .wrongState []

/-- JOB_PAUSE (R72). -/
def execJobPause (s : State) : Host.Outcome State Fault Refusal :=
  .next (occur (takeHead (isKind kindJobPause) (jobRequest (· == 0) jobPauseTaken)) s)

/-- The states in which RESUME is taken (R73). -/
def JobState.takesResume : JobState → Bool
  | .paused => true
  | .stopping .pause => true
  | _ => false

/-- The effect of RESUME on a context (R73): a PAUSED job goes on, to DONE when E equals N; a pending
PAUSE is removed. -/
def Job.resume (j : Job) : Job :=
  match j.state with
  | .paused => j.goOn
  | .stopping .pause => j.enter .running
  | _ => j

/-- RESUME (R73). -/
def jobResumeTaken (j : Fin 8) (f : Frame) (s : State) : State :=
  if (s.job j).state.takesResume then
    if s.quiet then s.refuseJob j f .linkQuiet []
    else (s.modifyJob j Job.resume).answerState j f
  else s.refuseJob j f .wrongState []

/-- JOB_RESUME (R73). -/
def execJobResume (s : State) : Host.Outcome State Fault Refusal :=
  .next (occur (takeHead (isKind kindJobResume) (jobRequest (· == 0) jobResumeTaken)) s)

/-! ### ABORT, CLOSE -/

/-- A lane that codes the job becomes IDLE and drops its pass state (R76, R113). -/
def abandonPass (j : Fin 8) : Option PassState → Option PassState
  | some p => if p.job = j then none else some p
  | none => none

/-- The context is emptied (R66, R76, R78): the job leaves every slot, a pass in flight is abandoned,
and every field takes its FREE value, the reservation ending with them. -/
def State.freeContext (s : State) (j : Fin 8) : State :=
  { s.leaveAll j with lanes := Vector.ofFn fun l => abandonPass j s.lanes[l] }.setJob j freeJob

/-- ABORT (R76): the reply carries the state, L and E the job had before. -/
def jobAbortTaken (j : Fin 8) (f : Frame) (s : State) : State :=
  let job := s.job j
  if job.state = .free then s.refuseJob j f .wrongState []
  else
    (s.freeContext j).answer f .ok
      ([JobState.free.code, job.state.code] ++ leBytes 2 job.loaded ++ leBytes 2 job.emitted)

/-- JOB_ABORT (R76). -/
def execJobAbort (s : State) : Host.Outcome State Fault Refusal :=
  .next (occur (takeHead (isKind kindJobAbort) (jobRequest (· == 0) jobAbortTaken)) s)

/-- CLOSE (R78): from OPEN, whose preloaded slots it releases, or from DONE. -/
def jobCloseTaken (j : Fin 8) (f : Frame) (s : State) : State :=
  let job := s.job j
  if job.state = .opened ∨ job.state = .done then
    (s.freeContext j).answer f .ok
      ([JobState.free.code] ++ leBytes 2 job.loaded ++ leBytes 2 job.emitted)
  else s.refuseJob j f .wrongState []

/-- JOB_CLOSE (R78). -/
def execJobClose (s : State) : Host.Outcome State Fault Refusal :=
  .next (occur (takeHead (isKind kindJobClose) (jobRequest (· == 0) jobCloseTaken)) s)

/-! ### STATUS, CLEAR FLAGS, SET ENABLES -/

/-- JOB STATUS (R81). -/
def jobStatusTaken (j : Fin 8) (f : Frame) (s : State) : State :=
  s.answer f .ok (s.statusReport j)

/-- JOB_STATUS (R81). -/
def execJobStatus (s : State) : Host.Outcome State Fault Refusal :=
  .next (occur (takeHead (isKind kindJobStatus) (jobRequest (· == 0) jobStatusTaken)) s)

/-- CLEAR FLAGS (R80): the reply carries the flag set as it stood. -/
def clearFlagsTaken (j : Fin 8) (f : Frame) (s : State) : State :=
  if (s.job j).state = .free then s.refuseJob j f .wrongState []
  else
    (s.modifyJob j fun job => { job with flags := {} }).answer f .ok [(s.job j).flags.toByte]

/-- CLEAR_FLAGS (R80). -/
def execClearFlags (s : State) : Host.Outcome State Fault Refusal :=
  .next (occur (takeHead (isKind kindClearFlags) (jobRequest (· == 0) clearFlagsTaken)) s)

/-- The states in which SET ENABLES is taken (R79). -/
def JobState.takesEnables : JobState → Bool
  | .free => false
  | .halted => false
  | _ => true

/-- The settings SET ENABLES replaces (R79): a level of 0 empties the notice pending set, and a kind
that is disabled loses its mark. -/
def Job.setEnables (j : Job) (halts : Conditions) (level : Nat) (kinds : NoticeKinds) : Job :=
  { j with
    halts := halts
    noticeLevel := level
    noticeKinds := kinds
    noticePending := if level = 0 then {} else j.noticePending.inter kinds }

/-- SET ENABLES (R79). -/
def setEnablesTaken (j : Fin 8) (f : Frame) (s : State) : State :=
  if (s.job j).state.takesEnables then
    let level := field f.payload 1 1
    let job' := (s.job j).setEnables (conditionsOfByte (f.payload.getD 0 0)) (min 3 level)
      (noticeKindsOfByte (f.payload.getD 2 0))
    (s.setJob j job').answer f (clampCode (decide (3 < level)))
      [job'.halts.toByte, byte job'.noticeLevel, job'.noticeKinds.toByte]
  else s.refuseJob j f .wrongState []

/-- SET_ENABLES (R79). -/
def execSetEnables (s : State) : Host.Outcome State Fault Refusal :=
  .next (occur (takeHead (isKind kindSetEnables) (jobRequest (· == 3) setEnablesTaken)) s)

end Sys2Proof.Machine
end

