-- ==== Sys2Proof/Machine/Resolve.lean ====
section
/-! DEFINITION. RESOLVE and its five actions (R123 to R128). -/

namespace Sys2Proof.Machine

/-- The action code of a RESOLVE frame. -/
def Frame.action (f : Frame) : Nat := (resolveRequestOf f.payload).action

/-- A RESOLVE frame that the row of an action takes: one with its action code, or one that names none
of the five actions, which every one of the five rows refuses alike (R123, log 9). -/
def isResolve (action : Nat) (f : Frame) : Bool :=
  f.kind == kindJobResolve && (f.action == action || !actionNamed f.action)

/-- The withheld band of a refused RESOLVE's reply, when one is present (R123): band number, pass,
whether it ran all K columns and whether it fits. -/
def Job.withheldItems (j : Job) : List Byte :=
  match j.withheld with
  | some w => leBytes 2 w.band ++ [byte w.pass.number, w.bits]
  | none => []

/-- The action field and the pass field of a RETRY (R123), as the offset of the field that fails. -/
def resolveFieldFailure (r : ResolveRequest) : Option Nat :=
  if !actionNamed r.action then some 0
  else if r.action = actionRetry ∧ (retryPassOf r.pass).isNone then some 1
  else none

/-- The first check of R123 that a RESOLVE of a HALTED job fails, with the data the refusal adds. -/
def resolveRefusal (quiet : Bool) (j : Job) (r : ResolveRequest) : Option (ReplyCode × List Byte) :=
  if quiet then some (.linkQuiet, [])
  else
    match resolveFieldFailure r with
    | some offset => some (.badField, [byte offset])
    | none =>
      match j.withheld with
      | none => if r.action = actionContinue then none else some (.wrongState, [])
      | some w =>
        if r.action = actionContinue then some (.wrongState, [])
        else if r.action = actionAccept ∧ ¬(w.complete ∧ w.fits) then some (.notComplete, [])
        else none

/-- RESOLVE (R123): taken in HALTED, checked, and handed to its action. -/
def resolveTaken (effect : Fin 8 → ResolveRequest → Frame → State → State) (j : Fin 8) (f : Frame)
    (s : State) : State :=
  if (s.job j).state ≠ .halted then s.refuseJob j f .wrongState []
  else
    match resolveRefusal s.quiet (s.job j) (resolveRequestOf f.payload) with
    | some (code, more) => s.refuseJob j f code ((s.job j).withheldItems ++ more)
    | none => effect j (resolveRequestOf f.payload) f s

/-- The row of a RESOLVE action. -/
def resolveRow (action : Nat) (effect : Fin 8 → ResolveRequest → Frame → State → State) :
    State → Option State :=
  takeHead (isResolve action) (jobRequest (· == 7) (resolveTaken effect))

/-- The reply to an accepted RESOLVE (R123): code, state after the resolution, E, then its own
items. -/
def State.answerResolve (s : State) (j : Fin 8) (f : Frame) (code : ReplyCode) (more : List Byte) :
    State :=
  s.answer f code ([(s.job j).state.code] ++ leBytes 2 (s.job j).emitted ++ more)

/-! ### ACCEPT and DROP: a commit (R124, R127) -/

/-- The withheld band leaves the context, and the job goes on (R109, R124, R127). -/
def State.commitWithheld (s : State) (j : Fin 8) (c : CommitSource) : State :=
  (s.commit j c).modifyJob j fun job => { job with withheld := none }.goOn

/-- What ACCEPT commits: the withheld band as it stands (R108, R124). -/
def acceptSource (j : Job) (w : Withheld) : CommitSource where
  slot := w.slot
  band := w.band
  pass := w.pass.number
  clipped := w.clippedMark
  lifted := w.pass == .two
  dropped := false
  resolved := true
  startIndex := w.startIndex
  payload :=
    match j.reservation with
    | some r => r.area.take w.stored
    | none => []

/-- ACCEPT (R124): the reply also carries the mark of the committed record. -/
def acceptEffect (j : Fin 8) (_r : ResolveRequest) (f : Frame) (s : State) : State :=
  match (s.job j).withheld with
  | none => s
  | some w =>
    (s.commitWithheld j (acceptSource (s.job j) w)).answerResolve j f .ok [s.commitCount]

/-- ACCEPT (R124). -/
def execAccept (s : State) : Host.Outcome State Fault Refusal :=
  .next (occur (resolveRow actionAccept acceptEffect) s)

/-- What DROP commits: a header alone (R108, R127). -/
def dropSource (j : Job) (w : Withheld) : CommitSource where
  slot := w.slot
  band := w.band
  pass := 0
  clipped := false
  lifted := false
  dropped := true
  resolved := false
  startIndex := j.index
  payload := []

/-- DROP (R127): the reply also carries the mark of the record. -/
def dropEffect (j : Fin 8) (_r : ResolveRequest) (f : Frame) (s : State) : State :=
  match (s.job j).withheld with
  | none => s
  | some w =>
    (s.commitWithheld j (dropSource (s.job j) w)).answerResolve j f .ok [s.commitCount]

/-- DROP (R127). -/
def execDrop (s : State) : Host.Outcome State Fault Refusal :=
  .next (occur (resolveRow actionDrop dropEffect) s)

/-! ### RETRY, DEGRADE, CONTINUE (R125, R126, R128) -/

/-- The withheld band goes back to the head of the ready queue under the next pass given, its
reservation ends, and the job becomes RUNNING (R125, R126). -/
def Job.requeue (j : Job) (w : Withheld) (next : Pass) : Job :=
  { j with
    reservation := none
    withheld := none
    ready := w.slot :: j.ready
    nextPass := next }.enter .running

/-- The step index a RETRY sets (R57). -/
def retryIndex (r : ResolveRequest) : Nat := min 63 r.index

/-- The budget after a RETRY (R57, R44): a budget of 0 is absent (R171). -/
def retryBudget (j : Job) (r : ResolveRequest) : Nat :=
  if r.budget = 0 then j.budget else clampBudget j.columns r.budget

/-- A RETRY clamped its index or its budget (R57). -/
def retryClamped (j : Job) (r : ResolveRequest) : Bool :=
  decide (63 < r.index) || (r.budget != 0 && clampBudget j.columns r.budget != r.budget)

/-- RETRY (R125): the reply carries the effective S, B and next pass. -/
def retryEffect (j : Fin 8) (r : ResolveRequest) (f : Frame) (s : State) : State :=
  match (s.job j).withheld, retryPassOf r.pass with
  | some w, some pass =>
    let old := s.job j
    let job :=
      { old with index := retryIndex r, budget := retryBudget old r }.requeue w pass
    (s.setJob j job).answerResolve j f (clampCode (retryClamped old r))
      ([byte job.index] ++ leBytes 3 job.budget ++ [byte job.nextPass.number])
  | _, _ => s

/-- RETRY (R125). -/
def execRetry (s : State) : Host.Outcome State Fault Refusal :=
  .next (occur (resolveRow actionRetry retryEffect) s)

/-- DEGRADE (R126). -/
def degradeEffect (j : Fin 8) (_r : ResolveRequest) (f : Frame) (s : State) : State :=
  match (s.job j).withheld with
  | none => s
  | some w => (s.modifyJob j fun job => job.requeue w .three).answerResolve j f .ok []

/-- DEGRADE (R126). -/
def execDegrade (s : State) : Host.Outcome State Fault Refusal :=
  .next (occur (resolveRow actionDegrade degradeEffect) s)

/-- CONTINUE (R128). -/
def continueEffect (j : Fin 8) (_r : ResolveRequest) (f : Frame) (s : State) : State :=
  (s.modifyJob j fun job => job.enter .running).answerResolve j f .ok []

/-- CONTINUE (R128). -/
def execContinue (s : State) : Host.Outcome State Fault Refusal :=
  .next (occur (resolveRow actionContinue continueEffect) s)

end Sys2Proof.Machine
end

