-- ==== Sys2Proof/Machine/Dispatch.lean ====
section
/-! DEFINITION. The effect of each command on everything but the queue: one meaning per row. -/

namespace Sys2Proof.Machine

/-- The effect of a command. -/
def exec (i : Instr) (s : State) : Host.Outcome State Fault Refusal :=
  match i with
  | .powerOnReset straps => Sys2Proof.Machine.execPowerOnReset straps s
  | .pinReset straps => Sys2Proof.Machine.execPinReset straps s
  | .recordRead passes => Sys2Proof.Machine.execRecordRead passes s
  | .saveCompletion passes => Sys2Proof.Machine.execSaveCompletion passes s
  | .breakCharacter => Sys2Proof.Machine.execBreak s
  | .frameClose => Sys2Proof.Machine.execFrameClose s
  | .unknownKind => Sys2Proof.Machine.execUnknownKind s
  | .inquire => Sys2Proof.Machine.execInquire s
  | .softReset => Sys2Proof.Machine.execSoftReset s
  | .softResetEvent => Sys2Proof.Machine.execSoftResetEvent s
  | .linkSet => Sys2Proof.Machine.execLinkSet s
  | .linkClear => Sys2Proof.Machine.execLinkClear s
  | .linkStatus => Sys2Proof.Machine.execLinkStatus s
  | .profileWrite => Sys2Proof.Machine.execProfileWrite s
  | .profileCommit => Sys2Proof.Machine.execProfileCommit s
  | .profileRead => Sys2Proof.Machine.execProfileRead s
  | .profileSave => Sys2Proof.Machine.execProfileSave s
  | .profileRecall => Sys2Proof.Machine.execProfileRecall s
  | .jobOpen => Sys2Proof.Machine.execJobOpen s
  | .jobStart => Sys2Proof.Machine.execJobStart s
  | .jobPause => Sys2Proof.Machine.execJobPause s
  | .jobResume => Sys2Proof.Machine.execJobResume s
  | .accept => Sys2Proof.Machine.execAccept s
  | .retry => Sys2Proof.Machine.execRetry s
  | .degrade => Sys2Proof.Machine.execDegrade s
  | .drop => Sys2Proof.Machine.execDrop s
  | .continueJob => Sys2Proof.Machine.execContinue s
  | .jobAbort => Sys2Proof.Machine.execJobAbort s
  | .jobClose => Sys2Proof.Machine.execJobClose s
  | .jobStatus => Sys2Proof.Machine.execJobStatus s
  | .clearFlags => Sys2Proof.Machine.execClearFlags s
  | .setEnables => Sys2Proof.Machine.execSetEnables s
  | .retime => Sys2Proof.Machine.execRetime s
  | .pixels => Sys2Proof.Machine.execPixels s
  | .pixelsWriteComplete => Sys2Proof.Machine.execPixelsWriteComplete s
  | .grant => Sys2Proof.Machine.execGrant s
  | .columnEvent lane => Sys2Proof.Machine.execColumnEvent lane s
  | .pacedExpiry job => Sys2Proof.Machine.execPacedExpiry job s
  | .pageExpiry job => Sys2Proof.Machine.execPageExpiry job s
  | .transmitEnd => Sys2Proof.Machine.execTransmitEnd s
  | .character samples => Sys2Proof.Machine.execCharacter samples s
  | .returnToMark => Sys2Proof.Machine.execReturnToMark s
  | .prescaledTick job => Sys2Proof.Machine.execPrescaledTick job s
  | .lossOfPower => Sys2Proof.Machine.execLossOfPower s

end Sys2Proof.Machine
end

