-- ==== Sys2Proof/Machine/Reader.lean ====
section
/-! DEFINITION. What a record gives a decoder (R38; spec/02, Reading a payload): the parse of a
payload's bits back into the levels of its tiles. The part does not run it; statements about the
coded band are made with it. -/

namespace Sys2Proof.Machine

/-- Counts the leading zeros (R23). -/
def readZeros : List Bool → Nat × List Bool
  | false :: rest => ((readZeros rest).1 + 1, (readZeros rest).2)
  | bits => (0, bits)

/-- Reads `width` more bits, most significant first, into a number. -/
def readBits : (width acc : Nat) → List Bool → Option (Nat × List Bool)
  | 0, acc, bits => some (acc, bits)
  | width + 1, acc, b :: rest => readBits width (2 * acc + b.toNat) rest
  | _ + 1, _, [] => none

/-- Reads one UEG0 code (R23). -/
def readUeg0 (bits : List Bool) : Option (Nat × List Bool) :=
  match readBits ((readZeros bits).1 + 1) 0 (readZeros bits).2 with
  | some (v, rest) => some (v - 1, rest)
  | none => none

/-- The value a SEG0 index stands for (R24): odd ones are positive. -/
def seg0Value (n : Nat) : Int :=
  if n % 2 = 1 then ((n + 1) / 2 : Nat) else -((n / 2 : Nat) : Int)

/-- Reads `count` run-level-sign entries as levels in scan order (R26). -/
def readEntries : (count : Nat) → List Bool → Option (List Int × List Bool)
  | 0, bits => some ([], bits)
  | count + 1, bits =>
    match readUeg0 bits with
    | none => none
    | some (run, bits₁) =>
      match readUeg0 bits₁ with
      | none => none
      | some (mag, bits₂) =>
        match bits₂ with
        | [] => none
        | sign :: bits₃ =>
          match readEntries count bits₃ with
          | none => none
          | some (levels, rest) =>
            let level : Int := ((mag + 1 : Nat) : Int)
            some (List.replicate run 0 ++ (if sign then -level else level) :: levels, rest)

/-- Reads one component against its predictor (R25, R27); positions not reached hold level 0, and
levels past scan position 63 are damage. -/
def readComponent (predictor : Int) (bits : List Bool) : Option (ComponentLevels × List Bool) :=
  match readUeg0 bits with
  | none => none
  | some (delta, bits₁) =>
    match readUeg0 bits₁ with
    | none => none
    | some (count, bits₂) =>
      match readEntries count bits₂ with
      | none => none
      | some (levels, rest) =>
        if 63 < levels.length then none
        else
          some ({ dc := predictor + seg0Value delta
                  ac := levels ++ List.replicate (63 - levels.length) 0 }, rest)

/-- Reads one tile (R25). -/
def readTile (p : Predictors) (bits : List Bool) : Option (TileLevels × List Bool) :=
  match readBits 3 0 bits with
  | none => none
  | some (code, bits₁) =>
    match zoneOfCode code, readComponent p.y bits₁ with
    | some zone, some (y, bits₂) =>
      match readComponent p.u bits₂ with
      | none => none
      | some (u, bits₃) =>
        match readComponent p.v bits₃ with
        | none => none
        | some (v, rest) => some ({ zone, y, u, v }, rest)
    | _, _ => none

/-- Reads `count` tiles in coding order, each against the DC levels of the one before (R27, R38). -/
def readTiles : (count : Nat) → Predictors → List Bool → Option (List TileLevels × List Bool)
  | 0, _, bits => some ([], bits)
  | count + 1, p, bits =>
    match readTile p bits with
    | none => none
    | some (t, bits₁) =>
      match readTiles count (predictorsAfter t) bits₁ with
      | none => none
      | some (ts, rest) => some (t :: ts, rest)

/-- The bits of tiles in coding order (R25, R27). -/
def tilesBits : Predictors → List TileLevels → List Bool
  | _, [] => []
  | p, t :: ts => tileBits p t ++ tilesBits (predictorsAfter t) ts

end Sys2Proof.Machine
end

