-- ==== Sys2Proof/Safety.lean ====
section
/-! DEFINITION. The terms the statements use: a request at the head of the inbound queue, replies and
marks written from the spec's own words, and the invariants of a safe run. -/

namespace Sys2Proof.Machine

/-! ### Requests and replies (R159, R169, R172) -/

/-- The decoder can take frame `f` at the head of the inbound queue, with `rest` behind it, and the
frame has the kind code and a payload of the length (R159, R169). -/
structure Taking (s : State) (f : Frame) (rest : List Frame) (code : Byte) (length : Nat) : Prop where
  ready : s.decoderReady = true
  head : s.inbound = f :: rest
  kind : f.kind = code
  size : f.payload.length = length

/-- The REPLY to a frame: kind 0x80, the request's unit, and a payload of the request's kind, the
reply code and the data (R169, R171, R172). -/
def replyTo (f : Frame) (code : Byte) (data : List Byte) : Frame where
  kind := 0x80
  unit := f.unit
  payload := f.kind :: code :: data

/-- The head frame has left the inbound queue and its reply has joined the reply queue; all else is as
it was (R159, R163). -/
def State.took (s : State) (rest : List Frame) (reply : Frame) : State :=
  { s with inbound := rest, replies := s.replies ++ [reply] }

/-- CLAMPED when something was clamped, OK otherwise (R172). -/
def okOrClamped (clamped : Bool) : Byte := if clamped then 0x01 else 0x00

/-- The kind code of the frames a request row takes (R169); the five rows of RESOLVE share one, and
UNKNOWN_KIND and the events have none. -/
def requestKind : Instr → Option Byte
  | .inquire => some 0x01
  | .softReset => some 0x02
  | .linkSet => some 0x03
  | .linkClear => some 0x04
  | .linkStatus => some 0x05
  | .profileWrite => some 0x10
  | .profileCommit => some 0x11
  | .profileRead => some 0x12
  | .profileSave => some 0x13
  | .profileRecall => some 0x14
  | .jobOpen => some 0x20
  | .jobStart => some 0x21
  | .jobPause => some 0x22
  | .jobResume => some 0x23
  | .accept => some 0x24
  | .retry => some 0x24
  | .degrade => some 0x24
  | .drop => some 0x24
  | .continueJob => some 0x24
  | .jobAbort => some 0x25
  | .jobClose => some 0x26
  | .jobStatus => some 0x27
  | .clearFlags => some 0x28
  | .setEnables => some 0x29
  | .retime => some 0x2A
  | .pixels => some 0x30
  | .powerOnReset _ | .pinReset _ | .recordRead _ | .saveCompletion _ | .breakCharacter => none
  | .frameClose | .unknownKind | .softResetEvent | .pixelsWriteComplete | .grant => none
  | .columnEvent _ | .pacedExpiry _ | .pageExpiry _ | .transmitEnd | .character _ => none
  | .returnToMark | .prescaledTick _ | .lossOfPower => none

/-- The payload lengths a request kind has (R169, R174). -/
def lengthFits (kind : Byte) (n : Nat) : Bool :=
  if kind = 0x03 then n == 1
  else if kind = 0x10 then decide (1 ≤ n ∧ n ≤ 257)
  else if kind = 0x20 then n == 18 || n == 22
  else if kind = 0x24 then n == 7
  else if kind = 0x29 then n == 3
  else if kind = 0x2A then n == 4
  else if kind = 0x30 then decide (9 ≤ n)
  else n == 0

/-! ### Notice marks (R82) -/

/-- The notice pending set after a change of state: the STATE mark joins it when the level is 1 to 3
and the kind is enabled (R82). -/
def stateNoted (j : Job) : NoticeKinds :=
  if 1 ≤ j.noticeLevel ∧ j.noticeKinds.state = true then { j.noticePending with state := true }
  else j.noticePending

/-- The notice pending set after the raising of a condition (R82, R116). -/
def conditionNoted (j : Job) : NoticeKinds :=
  if 1 ≤ j.noticeLevel ∧ j.noticeKinds.condition = true then
    { j.noticePending with condition := true }
  else j.noticePending

/-- The job in another state, with the mark that change sets (R82). -/
def Job.moved (j : Job) (st : JobState) : Job := { j with state := st, noticePending := stateNoted j }

/-! ### LATE and the expiries (R116, R120, R134, R135) -/

/-- The state a LATE whose halt is enabled leaves (R120). -/
def lateState (st : JobState) (passInFlight : Bool) : JobState :=
  match st with
  | .running => if passInFlight then .stopping .halt else .halted
  | .stopping _ => .stopping .halt
  | .paused => .halted
  | .free => .free
  | .opened => .opened
  | .halted => .halted
  | .done => .done

/-- The context after LATE has been raised (R116, R120). -/
def lateRaised (j : Job) (passInFlight : Bool) : Job :=
  let recorded :=
    { j with
      causes := { j.causes with late := true }
      flags := { j.flags with late := true }
      noticePending := conditionNoted j }
  if j.halts.late = true ∧ lateState j.state passInFlight ≠ j.state then
    recorded.moved (lateState j.state passInFlight)
  else recorded

/-- The context with D raised, and LATE raised when E is then below D (R134, R135). -/
def dueRaised (j : Job) (due : Nat) (passInFlight : Bool) : Job :=
  if j.emitted < due then lateRaised { j with due := due } passInFlight else { j with due := due }

/-- The timer stopped by its last expiry (R134, R135). -/
def Timer.finished (t : Timer) : Timer := { t with count := 0, prescaler := 0, running := false }

/-- The timer with a new interval begun (R132, R134): the count is the reload and the prescaler
restarts. -/
def Timer.began (t : Timer) (i : Interval) : Timer :=
  { t with interval := i, count := i.reload, prescaler := 0 }

/-- The timer after a PACED expiry that leaves D at `due`, of N bands (R134). -/
def pacedTimer (t : Timer) (due bands : Nat) : Timer :=
  match t.buffered with
  | some i =>
    if due = bands then { t.finished with interval := i, buffered := none }
    else { t.began i with buffered := none }
  | none => if due = bands then t.finished else t.began t.interval

/-- The context after a PACED expiry (R134). -/
def pacedExpired (j : Job) (passInFlight : Bool) : Job :=
  { dueRaised j (j.due + 1) passInFlight with timer := pacedTimer j.timer (j.due + 1) j.bands }

/-- The context after a PAGE expiry (R135). -/
def pageExpired (j : Job) (passInFlight : Bool) : Job :=
  { dueRaised j j.bands passInFlight with timer := j.timer.finished }

/-- The timer after a prescaled tick that is no expiry (R132). -/
def Timer.counted (t : Timer) : Timer := { t with count := t.count - 1, prescaler := 0 }

/-- The context after one base tick (R132): the prescaler of a running timer counts it, and at the
prescale a prescaled tick falls, an expiry when it takes the count to 0. -/
def ticked (j : Job) (passInFlight : Bool) : Job :=
  if j.timer.running = false then j
  else if j.timer.prescaler + 1 < j.timer.interval.prescale.ticks then
    { j with timer := { j.timer with prescaler := j.timer.prescaler + 1 } }
  else if j.timer.count ≠ 1 then { j with timer := j.timer.counted }
  else
    match j.timer.mode with
    | .paced => pacedExpired j passInFlight
    | .page => pageExpired j passInFlight
    | .off => j

/-! ### The profile store (R148, R152) -/

/-- The bytes of a profile's settings and name as a PROFILE READ reply carries them (R173, R174): the base
steps, the zones in code order, the thresholds, S0, the name behind its count. The CRC of a record is
taken over them (R148; that it is over this layout is log 29's choice). -/
def settingsBytes (p : Profile) : List Byte :=
  [byte p.y.dc, byte p.y.s3, byte p.y.s2, byte p.y.s1, byte p.c.dc, byte p.c.s3, byte p.c.s2,
    byte p.c.s1] ++
  [p.brightDetail, p.brightFlat, p.skin, p.shadow, p.mid].flatMap
    (fun z => [byte z.weight, byte z.ceiling, z.rounding.code]) ++
  [(p.tHi : Int), p.tLo, p.tSpan, p.uLo, p.uHi, p.vLo, p.vHi].flatMap
    (fun x => leBytes 2 (BitVec.ofInt 16 x).toNat) ++
  [byte p.startIndex, byte p.name.length] ++ p.name

/-- The record is WRITTEN and fails its check at every read: its CRC is not that of what it holds
(R148). -/
def StoreRecord.Fails (r : StoreRecord) : Prop :=
  ∃ p crc, r = .written p crc ∧ crc ≠ crc16 (settingsBytes p)

/-- The settings a read of a record returns, when it passes its check: its CRC is that of what it holds,
and the record has not decayed (R148). -/
def StoreRecord.reads (r : StoreRecord) (sound : Bool) : Option Profile :=
  match r with
  | .blank => none
  | .written p crc => if sound = true ∧ crc = crc16 (settingsBytes p) then some p else none

/-- The store keeps its records, but for one whose write is cut off: it is left WRITTEN and failing its
check (R148). -/
def storeAfterCut (s t : State) : Prop :=
  ∀ k, k ≠ 0 →
    (∀ w, s.saving = some w → w.slot = k → (t.record k).Fails) ∧
    ((∀ w, s.saving = some w → w.slot ≠ k) → t.record k = s.record k)

/-- The start-up load, done with a slot, goes on to the next one, or after slot 7 ends with the STARTUP
mark set (R152). -/
def loadGoesOn (s u : State) (slot : Fin 8) : Prop :=
  (∀ k : Fin 8, k.val = slot.val + 1 →
    u.startup = some { slot := k, attempts := 0 } ∧ u.marks = s.marks) ∧
  (slot = 7 → u.startup = none ∧ u.marks = { s.marks with startup := true })

/-- The items every profile reply carries first (R144, R173), for a slot of this content. -/
def State.profileItems (s : State) (k : Fin 8) (c : ProfileContent) : List Byte :=
  [c.code, byte (s.inUse k), if s.saveInFlight k then 1 else 0]

/-! ### Received frames (R157) -/

/-- The frame in reception is bad (R157). -/
def badReception (r : Reception) : Prop :=
  r.framingError = true ∨ r.bytes.length < 6 ∨ 4102 < r.bytes.length ∨
  4096 < field r.bytes 2 2 ∨ field r.bytes 2 2 ≠ r.bytes.length - 6 ∨
  r.bytes.drop (r.bytes.length - 2) ≠ leBytes 2 (crc16 (r.bytes.take (r.bytes.length - 2))).toNat

/-- A 16-bit saturating total, risen by one (R159). -/
def risen (n : Nat) : Nat := min 65535 (n + 1)

/-! ### Slots and timers, as reported (R95, R175) -/

/-- A slot after a job has left its reference set (R95): FREE when that was the last member; untouched
when the job is no member. -/
def slotWithout (j : Fin 8) (o : Option BandSlot) : Option BandSlot :=
  match o with
  | none => none
  | some b =>
    if b.refs.getLsbD j.val = false then some b
    else if b.refs = 1#8 <<< j.val then none
    else some { b with refs := b.refs &&& ~~~(1#8 <<< j.val) }

/-- The six timer fields as a report carries them (R131, R138, R175). -/
def timerFields (t : Timer) : List Byte :=
  t.mode.code :: leBytes 2 t.interval.reload ++ [t.interval.prescale.code] ++ leBytes 2 t.count ++
  [(if t.running then 1 else 0) + (if t.buffered.isSome then 2 else 0)] ++
  match t.buffered with
  | some i => leBytes 2 i.reload ++ [i.prescale.code]
  | none => [0, 0, 0]

/-- A request row of the job group, other than RESOLVE and RETIME, with its kind, its length and the
states it is taken in (R61, R67, R71, R72, R73, R76, R78, R79, R80). -/
structure JobRow where
  command : Instr
  kind : Byte
  length : Nat
  taken : JobState → Bool

/-- The request rows of the job group whose only state check is the list of states they are taken in;
JOB STATUS is taken in every state. -/
def jobRows : List JobRow :=
  [{ command := .jobStart, kind := 0x21, length := 0, taken := fun st => st == .opened },
   { command := .jobPause, kind := 0x22, length := 0
     taken := fun st =>
      st == .running || st == .stopping .pause || st == .stopping .halt || st == .paused },
   { command := .jobResume, kind := 0x23, length := 0
     taken := fun st => st == .paused || st == .stopping .pause },
   { command := .jobAbort, kind := 0x25, length := 0, taken := fun st => st != .free },
   { command := .jobClose, kind := 0x26, length := 0
     taken := fun st => st == .opened || st == .done },
   { command := .clearFlags, kind := 0x28, length := 0, taken := fun st => st != .free },
   { command := .setEnables, kind := 0x29, length := 3
     taken := fun st => st != .free && st != .halted }]

/-! ### RESOLVE and PIXELS (R86 to R90, R123) -/

/-- The rows of RESOLVE with their action codes (R169). -/
def resolveRows : List (Instr × Nat) :=
  [(.accept, 0), (.retry, 1), (.degrade, 2), (.drop, 3), (.continueJob, 4)]

/-- The withheld band as a refused RESOLVE reports it (R123, R175): band, pass, and its two bits. -/
def withheldBytes (o : Option Withheld) : List Byte :=
  match o with
  | none => []
  | some w =>
    leBytes 2 w.band ++
      [byte w.pass.number, (if w.complete then 1 else 0) + (if w.fits then 2 else 0)]

/-- The job is a target of the frame tag (R86). -/
def targets (s : State) (tag : Nat) (j : Fin 8) : Prop :=
  (s.job j).state ≠ .free ∧ (s.job j).state ≠ .done ∧
    (BitVec.ofNat 12 tag ^^^ (s.job j).tag) &&& (s.job j).mask = 0

/-- The rows complete that a refused PIXELS frame's reply carries (R91): those of the loading slot of
the lowest-numbered target that holds one, or 0. -/
def refusedRows (s : State) (tag : Nat) (rows : Byte) : Prop :=
  (∃ j k, targets s tag j ∧ (s.job j).loading = some k ∧
    (∀ i, i < j → targets s tag i → (s.job i).loading = none) ∧ rows = byte (s.rowsIn k)) ∨
  ((∀ j, targets s tag j → (s.job j).loading = none) ∧ rows = 0)

/-- The frame continues slot `k`, which holds `b` (R88): it is every target's loading slot, and its
reference set is the target set. -/
def continues (s : State) (q : PixelsRequest) (k : Fin 24) (b : BandSlot) : Prop :=
  s.slots[k] = some b ∧ (∀ j, targets s q.tag j → (s.job j).loading = some k) ∧
    ∀ j : Fin 8, b.refs.getLsbD j.val = true ↔ targets s q.tag j

/-- The frame begins a band in slot `k`, which would then hold `b` (R89): no target holds a loading slot
or is without credit, and `k` is the lowest-numbered FREE slot. -/
def begins (s : State) (q : PixelsRequest) (k : Fin 24) (b : BandSlot) : Prop :=
  (∀ j, targets s q.tag j → (s.job j).loading = none ∧ (s.job j).loaded - (s.job j).emitted < 4) ∧
  s.slots[k] = none ∧ (∀ i : Fin 24, i < k → s.slots[i] ≠ none) ∧
  b.full = false ∧ b.tag = BitVec.ofNat 12 q.tag ∧ b.band = q.band ∧
  b.rows = List.replicate b.rowsNeeded [] ∧
  (∀ j : Fin 8, b.refs.getLsbD j.val = true ↔ targets s q.tag j) ∧
  ∃ first, targets s q.tag first ∧ (∀ i, i < first → ¬targets s q.tag i) ∧
    b.width = (s.job first).width ∧
    b.rowsNeeded =
      if q.band + 1 = (s.job first).bands then
        (s.job first).height - 16 * ((s.job first).bands - 1)
      else 16

/-- The frame passes checks 1 to 6 of R87, with slot `k` and what it holds or would hold. -/
def admitted (s : State) (q : PixelsRequest) (k : Fin 24) (b : BandSlot) : Prop :=
  s.quiet = false ∧ q.tag ≤ 4095 ∧ (∃ j, targets s q.tag j) ∧
  (∀ j, targets s q.tag j → (s.job j).loaded = q.band ∧ (s.job j).loaded < (s.job j).bands) ∧
  (continues s q k b ∨ begins s q k b)

/-! ### Records (R108, R170) -/

/-- The record a commit of job `j` places, from the job's D, B and K and the commit count as they
stand (R108, R170): flags are LATE, CLIPPED, LIFTED, DROPPED, RESOLVED in bits 0 to 4. -/
def bandRecord (s : State) (j : Fin 8) (band pass : Nat) (clipped lifted dropped resolved : Bool)
    (start : Nat) (payload : List Byte) : OutRecord where
  job := j
  sent := 0
  bytes :=
    [s.commitCount, byte j.val] ++ leBytes 2 band ++
    [byte pass, flagByte [decide (band < (s.job j).due), clipped, lifted, dropped, resolved],
     byte start, byte (if band < (s.job j).due then min 255 ((s.job j).due - band) else 0)] ++
    leBytes 3 (s.job j).budget ++ leBytes 3 payload.length ++ leBytes 2 (s.job j).columns ++ payload

/-- The context after a commit, in the state it then takes (R109): the reservation and the withheld
band are gone, E has risen, the next pass is 1. -/
def Job.banked (j : Job) (st : JobState) : Job :=
  { j with
    state := st
    reservation := none
    withheld := none
    emitted := j.emitted + 1
    nextPass := .one
    noticePending := if st = j.state then j.noticePending else stateNoted j
    timer := if st = .done then { j.timer with running := false, buffered := none } else j.timer }

/-! ### The pass end (R42, R50, R116) -/

/-- The context at a pass end, before the decision (R42, R50, R51, R53): S from the lane after passes 1
and 2, the conditions raised, and the payload area as the lane left it. -/
def passRaised (j : Job) (p : PassState) (r : Reservation) : Job :=
  let overspent := p.overMark && p.pass == .one
  let degraded := p.overMark && p.pass == .two
  { j with
    index := if p.pass = .three then j.index else p.runningIndex
    reservation := some r
    causes :=
      { j.causes with
        clipped := j.causes.clipped || p.clippedMark
        overbudget := j.causes.overbudget || overspent
        degraded := j.causes.degraded || degraded }
    flags :=
      { j.flags with
        clipped := j.flags.clipped || p.clippedMark
        overbudget := j.flags.overbudget || overspent
        degraded := j.flags.degraded || degraded }
    noticePending := if p.clippedMark || overspent || degraded then conditionNoted j else j.noticePending }

/-- A condition in the cause set has its halt enabled (R118). -/
def haltDue (causes halts : Conditions) : Prop :=
  (causes.clipped = true ∧ halts.clipped = true) ∨
  (causes.overbudget = true ∧ halts.overbudget = true) ∨
  (causes.degraded = true ∧ halts.degraded = true) ∨ (causes.late = true ∧ halts.late = true)

/-- Lane `l` runs pass `p` over band `b` with profile `q` into reservation `r`, under power (R100). -/
structure Coded (s : State) (l : Fin 2) (p : PassState) (b : BandSlot) (q : Profile)
    (r : Reservation) : Prop where
  powered : s.powered = true
  lane : s.lanes[l] = some p
  band : s.slots[p.slot] = some b
  profile : s.profileOf p.job = some q
  reserved : (s.job p.job).reservation = some r

/-- The pass ends with its column: early under R49, or after column K - 1 (R45). `c` is the pass after
the column. -/
def endsHere (s : State) (c : Coding) : Prop :=
  c.pass.overMark = true ∨ (s.job c.pass.job).columns ≤ c.pass.column + 1

/-! ### Blocks of a tile (R6, R7, R9) -/

/-- n rows of n values. -/
def IsBlock {α : Type} (n : Nat) (m : List (List α)) : Prop :=
  m.length = n ∧ ∀ row ∈ m, row.length = n

/-- The value at an array row and column (R7). -/
def cell (m : List (List Int)) (row col : Nat) : Int := (m.getD row []).getD col 0

/-- The n × n top left of an array (R7). -/
def corner (n : Nat) (m : List (List Int)) : List (List Int) := (m.take n).map (List.take n)

/-- The scan positions of HH3, HH2 and HH1 (R9). -/
def isDiagonal (n : Nat) : Bool := n == 3 || decide (12 ≤ n ∧ n ≤ 15) || decide (48 ≤ n ∧ n ≤ 63)

/-! ### Packing (R31) -/

/-- The number of bits given least significant first. -/
def natOfBits : List Bool → Nat
  | [] => 0
  | b :: rest => b.toNat + 2 * natOfBits rest

/-- The first `count` bytes of a bit stream: bit i lies in byte floor(i / 8), bit 0 of the stream is
the most significant bit of byte 0, and places past the stream hold zero (R31, R33). -/
def packed (bits : List Bool) (count : Nat) : List Byte :=
  (List.range count).map fun i =>
    byte (natOfBits ((List.range 8).map fun n => bits.getD (8 * i + 7 - n) false))

/-! ### Invariants of a safe run -/

/-- The link's counts stay in their ranges (R156, R158, R159, R160, R163). While a frame is in hand
the reply queue keeps a place for its reply. -/
def LinkInv (s : State) : Prop :=
  (1 ≤ s.threshold ∧ s.threshold ≤ 255 ∧ s.errorCounter ≤ s.threshold) ∧
  (s.totals.bad ≤ 65535 ∧ s.totals.noisy ≤ 65535 ∧ s.totals.overrun ≤ 65535 ∧
    s.totals.breaks ≤ 65535) ∧
  s.inbound.length ≤ 8 ∧ s.replies.length ≤ 16 ∧
  (s.inHand ≠ .nothing → s.replies.length ≤ 15) ∧
  ∀ r ∈ s.reception, r.bytes.length ≤ 4103

/-- The candidate list holds exactly the eligible jobs, once each, none behind a job of lower priority
(R101). -/
def CandidateInv (s : State) : Prop :=
  s.candidates.Nodup ∧ (∀ j, j ∈ s.candidates ↔ s.eligible j = true) ∧
  s.candidates.Pairwise fun a b => (s.job b).priority ≤ (s.job a).priority

/-- The job is RUNNING or STOPPING. -/
def JobState.coding : JobState → Bool
  | .running => true
  | .stopping _ => true
  | _ => false

/-- The job is STOPPING. -/
def JobState.isStopping : JobState → Bool
  | .stopping _ => true
  | _ => false

/-- The lanes code different jobs; a job with a pass in flight is RUNNING or STOPPING and holds no
withheld band; a STOPPING job has a pass in flight; a job with a withheld band is HALTED (R63, R65,
R100, R122). -/
def LaneInv (s : State) : Prop :=
  (∀ p ∈ s.lanes[0], ∀ q ∈ s.lanes[1], p.job ≠ q.job) ∧
  ∀ j,
    (s.passInFlight j = true → (s.job j).state.coding = true ∧ (s.job j).withheld = none) ∧
    ((s.job j).state.isStopping = true → s.passInFlight j = true) ∧
    ((s.job j).withheld.isSome = true → (s.job j).state = .halted)

/-- The output queue's law (R110): record bytes plus reserved bytes fit the queue, and a job holds a
reservation, of its budget plus 16, exactly while it has a pass in flight or a withheld band. -/
def OutputInv (s : State) : Prop :=
  s.unsentBytes + s.reservedBytes ≤ 1048576 ∧
  ∀ j,
    ((s.job j).reservation.isSome = true ↔
      s.passInFlight j = true ∨ (s.job j).withheld.isSome = true) ∧
    ∀ r ∈ (s.job j).reservation,
      r.size = (s.job j).budget + 16 ∧ r.area.length ≤ (s.job j).budget

/-- Priorities and notice levels are 0 to 3 (R62); the index and budget laws of jobs that are not
FREE, and of passes (R1, R37, R41, R42, R44). -/
def IndexInv (s : State) : Prop :=
  (∀ j, (s.job j).priority ≤ 3 ∧ (s.job j).noticeLevel ≤ 3) ∧
  (∀ j, (s.job j).state ≠ .free →
    (s.job j).index ≤ 63 ∧
    (1 ≤ (s.job j).columns ∧ (s.job j).columns ≤ 1024 ∧
      (s.job j).columns = columnsOf (s.job j).width) ∧
    (1 ≤ (s.job j).bands ∧ (s.job j).bands = bandsOf (s.job j).height) ∧
    budgetFloor (s.job j).columns ≤ (s.job j).budget ∧ (s.job j).budget ≤ 196608) ∧
  ∀ l : Fin 2, ∀ p ∈ s.lanes[l], p.startIndex ≤ 63 ∧ p.runningIndex ≤ 63

/-- The bit stream of a pass (R29, R31, R32, R49) and of a withheld band (R33, R119): the bytes a pass
has completed are stored up to the budget, and a withheld band that fits ran all its columns. -/
def StreamInv (s : State) : Prop :=
  (∀ l : Fin 2, ∀ p ∈ s.lanes[l],
    p.overMark = false ∧ p.column < (s.job p.job).columns ∧
    p.currentByte.length = p.bitCount % 8 ∧
    p.stored = min (p.bitCount / 8) (s.job p.job).budget ∧
    ∀ r ∈ (s.job p.job).reservation, p.stored ≤ r.area.length) ∧
  ∀ j, ∀ w ∈ (s.job j).withheld,
    w.stored ≤ (s.job j).budget ∧ (w.fits = true → w.complete = true) ∧
    ∀ r ∈ (s.job j).reservation, w.stored ≤ r.area.length

/-- The slot of a job's coding band or withheld band (R63). -/
def State.workSlot (s : State) (j : Fin 8) : Option (Fin 24) :=
  match s.coding j with
  | some (_, p) => some p.slot
  | none => (s.job j).withheld.map Withheld.slot

/-- The strip store slots a job holds in its four parts (R63, R85). -/
def State.holds (s : State) (j : Fin 8) : List (Fin 24) :=
  (s.job j).loading.toList ++ (s.workSlot j).toList ++ (s.job j).ready

/-- The PIXELS write in progress (R92). -/
def State.writing (s : State) : Option PixelWrite :=
  match s.inHand with
  | .pixels w => some w
  | _ => none

/-- The reference set law (R85): a slot's reference set is exactly the jobs that hold it, each in one
part, and is not empty; it is FILLING for the jobs that hold it as loading slot; a write goes to a
FILLING slot. A FREE context holds its FREE values (R66). -/
def HoldInv (s : State) : Prop :=
  (∀ j, (s.job j).state = .free → s.job j = freeJob) ∧
  (∀ j, (s.holds j).Nodup) ∧
  (∀ j k, k ∈ s.holds j ↔ (s.slots[k]).any (fun b => JobSet.has b.refs j) = true) ∧
  (∀ k : Fin 24, ∀ b ∈ s.slots[k], b.refs ≠ 0) ∧
  (∀ (j : Fin 8) (k : Fin 24), ∀ b ∈ s.slots[k], JobSet.has b.refs j = true →
    (b.full = false ↔ (s.job j).loading = some k)) ∧
  ∀ w ∈ s.writing, (s.slots[w.slot]).any (fun b => !b.full) = true

/-- What a band slot holds (R83, R90, R93): the rows needed, none longer than W, all complete once it
is FULL; and a write in progress fits its row. -/
def SlotInv (s : State) : Prop :=
  (∀ k : Fin 24, ∀ b ∈ s.slots[k],
    b.rows.length = b.rowsNeeded ∧ (∀ row ∈ b.rows, row.length ≤ b.width) ∧
    (b.full = true → b.allComplete = true)) ∧
  ∀ w ∈ s.writing, ∀ b ∈ s.slots[w.slot],
    w.row < b.rowsNeeded ∧ b.received w.row + w.pixels.length ≤ b.width

/-- The cursor law (R64, R75): E ≤ L ≤ N; the coding or withheld band and then the ready queue hold
the bands E to L - 1 in order, at most 4; the loading slot holds band L; a DONE job has E = N. -/
def CursorInv (s : State) : Prop :=
  ∀ j,
    ((s.job j).emitted ≤ (s.job j).loaded ∧ (s.job j).loaded ≤ (s.job j).bands) ∧
    (s.job j).loaded ≤ (s.job j).emitted + 4 ∧
    ((s.workSlot j).toList ++ (s.job j).ready).map s.bandIn =
      List.range' (s.job j).emitted ((s.job j).loaded - (s.job j).emitted) ∧
    (∀ k ∈ (s.job j).loading, s.bandIn k = (s.job j).loaded ∧
      (s.job j).loaded < (s.job j).bands ∧ (s.job j).loaded ≤ (s.job j).emitted + 3) ∧
    (∀ c ∈ s.coding j, c.2.band = s.bandIn c.2.slot) ∧
    (∀ w ∈ (s.job j).withheld, w.band = s.bandIn w.slot) ∧
    ((s.job j).state = .done → (s.job j).emitted = (s.job j).bands)

/-- Reload in range (R131). -/
def Interval.InRange (i : Interval) : Prop := 1 ≤ i.reload ∧ i.reload ≤ 65535

/-- The pace timer's laws (R131 to R136): its ranges, D ≤ N, and where it may run. -/
def TimerInv (s : State) : Prop :=
  ∀ j,
    (s.job j).timer.interval.InRange ∧ (∀ i ∈ (s.job j).timer.buffered, i.InRange) ∧
    (s.job j).timer.count ≤ 65535 ∧ (s.job j).due ≤ (s.job j).bands ∧
    ((s.job j).timer.running = true →
      (s.job j).timer.mode ≠ .off ∧ 1 ≤ (s.job j).timer.count ∧
      (s.job j).timer.prescaler < (s.job j).timer.interval.prescale.ticks ∧
      ((s.job j).timer.mode = .paced → (s.job j).due < (s.job j).bands)) ∧
    ((s.job j).state = .opened → (s.job j).due = 0 ∧ 1 ≤ (s.job j).bands) ∧
    ((s.job j).state = .free ∨ (s.job j).state = .opened ∨ (s.job j).state = .done →
      (s.job j).timer.running = false)

/-- Base steps in range (R141). -/
def BaseSteps.InRange (b : BaseSteps) : Prop :=
  (1 ≤ b.dc ∧ b.dc ≤ 255) ∧ (1 ≤ b.s3 ∧ b.s3 ≤ 255) ∧ (1 ≤ b.s2 ∧ b.s2 ≤ 255) ∧
  1 ≤ b.s1 ∧ b.s1 ≤ 255

/-- Zone settings in range (R12, R141). -/
def ZoneSettings.InRange (z : ZoneSettings) : Prop :=
  8 ≤ z.weight ∧ z.weight ≤ 64 ∧ z.ceiling ≤ 63

/-- Settings in range (R141). -/
def Profile.InRange (p : Profile) : Prop :=
  p.name.length ≤ 12 ∧ p.y.InRange ∧ p.c.InRange ∧
  (p.brightDetail.InRange ∧ p.brightFlat.InRange ∧ p.skin.InRange ∧ p.shadow.InRange ∧
    p.mid.InRange) ∧
  (p.tHi ≤ 255 ∧ p.tLo ≤ 255 ∧ p.tSpan ≤ 255) ∧
  (-255 ≤ p.uLo ∧ p.uLo ≤ 255 ∧ -255 ≤ p.uHi ∧ p.uHi ≤ 255) ∧
  (-255 ≤ p.vLo ∧ p.vLo ≤ 255 ∧ -255 ≤ p.vHi ∧ p.vHi ≤ 255) ∧ p.startIndex ≤ 63

/-- The settings are consistent, as READY requires (R141, R146). -/
def Profile.Consistent (p : Profile) : Prop := p.tLo < p.tHi ∧ p.uLo ≤ p.uHi ∧ p.vLo ≤ p.vHi

/-- The slot is READY. -/
def ProfileContent.isReady : ProfileContent → Bool
  | .ready _ => true
  | _ => false

/-- The slot of the RECALL in hand (R151). -/
def State.recallSlot (s : State) : Option (Fin 8) :=
  match s.inHand with
  | .recall k _ => some k
  | _ => none

/-- The profile table's laws (R141, R142, R143, R148, R149, R151, R152): settings in range, READY,
saved and stored ones consistent; slot 0 the factory profile; a slot in use READY; a slot being
recalled not in use; no job open during a start-up load. -/
def ProfileInv (s : State) : Prop :=
  s.profiles[0] = { content := .ready factoryProfile, lastSave := none } ∧
  (∀ k : Fin 8, ∀ p ∈ (s.profiles[k]).content.settings,
    p.InRange ∧ ((s.profiles[k]).content.isReady = true → p.Consistent)) ∧
  (∀ i : Fin 7, ∀ p ∈ (s.store[i]).reads true, p.InRange ∧ p.Consistent) ∧
  (∀ w ∈ s.saving, w.slot ≠ 0 ∧ w.contents.InRange ∧ w.contents.Consistent) ∧
  (∀ j, (s.job j).state ≠ .free →
    (s.job j).profile.any (fun k => (s.profiles[k]).content.isReady) = true) ∧
  (∀ k ∈ s.recallSlot, k ≠ 0 ∧ s.inUse k = 0) ∧
  ∀ l ∈ s.startup, l.slot ≠ 0 ∧ ∀ j, (s.job j).state = .free

end Sys2Proof.Machine
end

