-- ==== Sys2Proof/Certificates/Slice0/Obligations.lean ====
section
/-! DEFINITION. The statements for the provers. In each, `exec` answers a state explicitly given, less
what settles after every event: the candidate list and the outbound arbiter's next choice
(`State.settle`), which the statements SettleFrame, CandidatesFollow and ArbiterOrder describe. A
state written as a record update is its own frame: every field not named is unchanged. -/

section
open Sys2Proof Sys2Proof.Machine

/-! ### The machine: step, queue, what settles -/

/-- A step takes the command at the front of the queue and runs it with the queue's rest. -/
def Obligations.StepTakesFront : Prop :=
  ∀ (c : Instr) (rest : List Instr) (s : State), s.pending = c :: rest →
    step s = exec c { s with pending := rest }

/-- Every command answers a next state, and leaves the queue alone (INVENTORY.md, Faults). -/
def Obligations.CommandsCompleteAndKeepQueue : Prop :=
  ∀ (c : Instr) (s : State), ∃ t : State, exec c s = .next t ∧ t.pending = s.pending

/-- On an empty queue one base tick passes (R132; that it is the idle step is log 2's choice): each
running timer's prescaler counts it, and at the prescale the timer ticks or expires. With no power or
no running timer nothing changes. -/
def Obligations.IdleStepIsBaseTick : Prop :=
  ∀ s : State, s.pending = [] →
    (s.powered = true → (∃ j, (s.job j).timer.running = true) →
      ∃ u : State, step s = .next u.settle ∧ u = { s with jobs := u.jobs } ∧
        ∀ j, u.job j = ticked (s.job j) (s.passInFlight j)) ∧
    (s.powered = false ∨ (∀ j, (s.job j).timer.running = false) → step s = .next s)

/-- A command that is not due leaves the state as it is (log 1's choice): anything but a power-on reset
without power (log 7's); a request, UNKNOWN_KIND among them, whose frame is not at the head of the
inbound queue of a ready decoder; and an event the part is in no position to take: a CHARACTER or a BREAK
while the receiver does not wait for a start bit (R155; after a soft reset log 17's choice), a return to
mark while it does, an end of what is not going on, a grant with no candidate, room or IDLE lane, an
expiry of a timer that is stopped, of another mode or at another count than 1, a tick below 2. -/
def Obligations.EventsNotDueChangeNothing : Prop :=
  (∀ (c : Instr) (s : State), s.powered = false → (∀ straps, c ≠ .powerOnReset straps) →
    exec c s = .next s) ∧
  (∀ (c : Instr) (s : State) (k : Byte), requestKind c = some k →
    (s.decoderReady = false ∨ ∀ f rest, s.inbound = f :: rest → f.kind ≠ k) →
    exec c s = .next s) ∧
  (∀ s : State,
    (s.decoderReady = false ∨
        (∀ f rest, s.inbound = f :: rest → ∃ c, requestKind c = some f.kind) →
      exec .unknownKind s = .next s) ∧
    ∀ row ∈ resolveRows,
      (∀ f rest, s.inbound = f :: rest → field f.payload 0 1 ≤ 4 ∧ field f.payload 0 1 ≠ row.2) →
      exec row.1 s = .next s) ∧
  ∀ s : State,
    (s.receiver ≠ .waiting →
      (∀ samples, exec (.character samples) s = .next s) ∧ exec .breakCharacter s = .next s) ∧
    (s.receiver = .waiting → exec .returnToMark s = .next s) ∧
    (∀ passes, s.saving = none → exec (.saveCompletion passes) s = .next s) ∧
    (∀ passes, s.startup = none → s.recallSlot = none → exec (.recordRead passes) s = .next s) ∧
    (s.reception = none → exec .frameClose s = .next s) ∧
    (s.transmitter = none → exec .transmitEnd s = .next s) ∧
    (s.writing = none → exec .pixelsWriteComplete s = .next s) ∧
    ((∀ j others, s.candidates = j :: others →
        s.freeSpace < (s.job j).budget + 16 ∨ s.lanes[0] ≠ none ∧ s.lanes[1] ≠ none) →
      exec .grant s = .next s) ∧
    (∀ l : Fin 2, s.lanes[l] = none → exec (.columnEvent l) s = .next s) ∧
    (s.inHand ≠ .softReset ∨ s.transmitter ≠ none → exec .softResetEvent s = .next s) ∧
    ∀ j,
      ((s.job j).timer.running = false ∨ (s.job j).timer.mode ≠ .paced ∨
          (s.job j).timer.count ≠ 1 →
        exec (.pacedExpiry j) s = .next s) ∧
      ((s.job j).timer.running = false ∨ (s.job j).timer.mode ≠ .page ∨
          (s.job j).timer.count ≠ 1 →
        exec (.pageExpiry j) s = .next s) ∧
      ((s.job j).timer.running = false ∨ (s.job j).timer.count < 2 →
        exec (.prescaledTick j) s = .next s)

/-- What settles after an event changes the candidate list, the transmitter, the device marks and the
notice pending sets of jobs, and nothing else. -/
def Obligations.SettleFrame : Prop :=
  ∀ s : State,
    s.settle =
      { s with
        candidates := s.settle.candidates
        transmitter := s.settle.transmitter
        marks := s.settle.marks
        jobs := s.settle.jobs } ∧
    ∀ j, s.settle.job j = { s.job j with noticePending := (s.settle.job j).noticePending }

/-- The candidate list after every event (R101): exactly the eligible jobs, once each, by priority;
jobs that stay keep their order, jobs that join go behind those of their priority, and several that
join together do so in ascending number. -/
def Obligations.CandidatesFollow : Prop :=
  ∀ s : State, s.candidates.Nodup →
    s.candidates.Pairwise (fun a b => (s.job b).priority ≤ (s.job a).priority) →
    s.settle.candidates.Nodup ∧
    (∀ j, j ∈ s.settle.candidates ↔
      (s.job j).state = .running ∧ s.passInFlight j = false ∧ (s.job j).ready ≠ []) ∧
    s.settle.candidates.Pairwise (fun a b => (s.job b).priority ≤ (s.job a).priority) ∧
    s.settle.candidates.filter (fun j => s.candidates.contains j) =
      s.candidates.filter s.eligible ∧
    ∀ a b : Fin 8, a ∈ s.settle.candidates → b ∈ s.settle.candidates → b ∉ s.candidates →
      (s.job a).priority = (s.job b).priority → (a ∈ s.candidates ∨ a < b) →
      [a, b].Sublist s.settle.candidates

/-- The outbound arbiter's choice while the transmitter is free (R164, R165, R111): the head reply; then
STARTUP, LINK_QUIET, SAVE_DONE; then the job notice of highest level and lowest number; then the next
segment of the oldest record; else nothing. The notice chosen is built from the state as it stands,
and its mark is cleared. The layouts are those of R166, R171 and R176; that a job notice has one byte for
the presence of a withheld band, and zeros for an absent one, is log 14's choice. -/
def Obligations.ArbiterOrder : Prop :=
  ∀ s : State, s.transmitter = none → s.inHand ≠ .softReset → (∀ j, (s.job j).noticeLevel ≤ 3) →
    (∀ r rs, s.replies = r :: rs →
      s.settle.transmitter = some { sending := .reply, frame := r } ∧ s.settle.marks = s.marks ∧
        s.settle.jobs = s.jobs) ∧
    (s.replies = [] →
      (s.marks.startup = true →
        s.settle.transmitter = some
          { sending := .notice
            frame :=
              { kind := 0x81, unit := 0
                payload :=
                  [1, s.resetCause.code, s.failedSlots, s.cutOffSlot.elim 0 (fun k => byte k.val)] } } ∧
        s.settle.marks = { s.marks with startup := false } ∧ s.settle.jobs = s.jobs) ∧
      (s.marks.startup = false → s.marks.linkQuiet = true →
        s.settle.transmitter = some
          { sending := .notice
            frame :=
              { kind := 0x81, unit := 0
                payload := [2, if s.quiet then 1 else 0, byte s.errorCounter, byte s.threshold] } } ∧
        s.settle.marks = { s.marks with linkQuiet := false } ∧ s.settle.jobs = s.jobs) ∧
      (s.marks.startup = false → s.marks.linkQuiet = false → s.marks.saveDone = true →
        (∀ k r, s.lastSave = some (k, r) →
          s.settle.transmitter = some
            { sending := .notice
              frame :=
                { kind := 0x81, unit := 0
                  payload := [3, byte k.val, if r = .ok then 0x00 else 0x24] } }) ∧
        s.settle.marks = { s.marks with saveDone := false } ∧ s.settle.jobs = s.jobs) ∧
      (s.marks = {} →
        (∀ j, (s.job j).noticePending ≠ {} →
          (∀ i, (s.job i).noticePending ≠ {} →
            (s.job i).noticeLevel < (s.job j).noticeLevel ∨
              ((s.job i).noticeLevel = (s.job j).noticeLevel ∧ j ≤ i)) →
          s.settle.transmitter = some
            { sending := .notice
              frame :=
                { kind := 0x81, unit := byte j.val
                  payload :=
                    [0, (s.job j).state.code, (s.job j).state.stopCode, (s.job j).causes.toByte,
                      (s.job j).flags.toByte] ++
                    leBytes 2 (s.job j).loaded ++ leBytes 2 (s.job j).emitted ++
                    leBytes 2 (s.job j).due ++
                    match (s.job j).withheld with
                    | some w =>
                      [1] ++ leBytes 2 w.band ++
                        [byte w.pass.number, flagByte [w.complete, w.fits]]
                    | none => [0, 0, 0, 0, 0] } } ∧
          s.settle.jobs = s.jobs.set j { s.job j with noticePending := {} } ∧
          s.settle.marks = {}) ∧
        ((∀ i, (s.job i).noticePending = {}) →
          s.settle.jobs = s.jobs ∧ s.settle.marks = {} ∧
          (∀ r rs, s.records = r :: rs →
            s.settle.transmitter = some
              { sending := .segment (min 4093 (r.bytes.length - r.sent))
                frame :=
                  { kind := 0x82, unit := byte r.job.val
                    payload := leBytes 3 r.sent ++ (r.bytes.drop r.sent).take 4093 } }) ∧
          (s.records = [] → s.settle.transmitter = none))))

/-! ### Resets and power -/

/-- What State.reset holds, by the values the spec states for a reset: every context FREE with R66's
values, every slot FREE (R99), lanes, candidates, records and commit count (R114), slot 0 the factory
profile (R152), the link's values (R168), no device notice pending and reset cause POWER (R177, R180);
and it meets every invariant. That the prescaler of a FREE context's timer is 0 is log 3's choice. The
other values the spec leaves open (straps, store, the device's last save result, log 3; slots 1 to 7
before their reads, log 18) are not stated. -/
def Obligations.ResetState : Prop :=
  (∀ j, State.reset.job j =
    { state := .free, profile := none, width := 0, height := 0, columns := 0, bands := 0, budget := 0,
      index := 0, nextPass := .one, priority := 0, tag := 0, mask := 0, halts := {}, causes := {},
      flags := {}, noticeLevel := 0, noticeKinds := {}, noticePending := {},
      timer :=
        { mode := .off, interval := { reload := 1, prescale := .by1 }, count := 0, buffered := none,
          running := false, prescaler := 0 },
      loaded := 0, emitted := 0, due := 0, loading := none, ready := [], withheld := none,
      reservation := none }) ∧
  (∀ k : Fin 24, State.reset.slots[k] = none) ∧ (∀ l : Fin 2, State.reset.lanes[l] = none) ∧
  State.reset.candidates = [] ∧ State.reset.records = [] ∧ State.reset.commitCount = 0 ∧
  State.reset.freeSpace = 1048576 ∧ State.reset.freeSlots = 24 ∧
  State.reset.profiles[0].content = .ready factoryProfile ∧
  (∀ k, State.reset.inUse k = 0 ∧ State.reset.saveInFlight k = false) ∧
  (∀ k : Fin 8, (State.reset.profiles[k]).lastSave = none) ∧
  State.reset.receiver = .waiting ∧ State.reset.reception = none ∧ State.reset.inbound = [] ∧
  State.reset.replies = [] ∧ State.reset.inHand = .nothing ∧ State.reset.errorCounter = 0 ∧
  State.reset.threshold = 31 ∧ State.reset.totals = {} ∧ State.reset.quiet = false ∧
  State.reset.marks = {} ∧ State.reset.resetCause = .power ∧ State.reset.transmitter = none ∧
  State.reset.startup = some { slot := 1, attempts := 0 } ∧ State.reset.decoderReady = false ∧
  LinkInv State.reset ∧ CandidateInv State.reset ∧ LaneInv State.reset ∧ OutputInv State.reset ∧
  IndexInv State.reset ∧ StreamInv State.reset ∧ HoldInv State.reset ∧ SlotInv State.reset ∧
  CursorInv State.reset ∧ TimerInv State.reset ∧ ProfileInv State.reset

/-- POWER_ON_RESET, PIN_RESET and LOSS_OF_POWER (R148, R167, R177): a reset leaves the reset state, with
the straps as sampled and the cause POWER or PIN; the store is kept, but for a write cut off, which
leaves a record that fails its check (its CRC: log 29), through all three. What the reset state holds where the spec gives
no value is the model's choice: prescalers 0 and no last save result of the device (log 3), slots 1 to 7
EMPTY before their reads (log 18). That a loss of power leaves the rest of the state as it was is log
7's. -/
def Obligations.PowerAndPinReset : Prop :=
  ∀ (s : State) (straps : Straps),
    (∃ t : State, exec (.powerOnReset straps) s = .next t ∧
      t = { State.reset with
            pending := s.pending, store := t.store, resetCause := .power, straps := straps } ∧
      storeAfterCut s t) ∧
    (s.powered = true →
      ∃ t : State, exec (.pinReset straps) s = .next t ∧
        t = { State.reset with
              pending := s.pending, store := t.store, resetCause := .pin, straps := straps } ∧
        storeAfterCut s t) ∧
    (s.powered = true →
      ∃ t : State, exec .lossOfPower s = .next t ∧
        t = { s with powered := false, saving := none, store := t.store } ∧
        storeAfterCut s t)

/-- SOFT_RESET and SOFT_RESET_EVENT (R153, R179): an accepted request has no reply; while it waits no
request is taken and no further frame is begun; its event gives every block its reset values, keeps
the profile slots and the straps, cuts a save off, whose record then fails its check (its CRC: log 29),
and sets the STARTUP mark. A receiver in the middle
of a frame waits for idle (R168). Read from the spec by inference: that no request is taken while it
waits (log 22). The model's choice: that a receiver with no byte received waits for a start bit (log
17), and that the device then has no last save result and prescalers are 0 (log 3). -/
def Obligations.SoftReset : Prop :=
  (∀ (s : State) (f : Frame) (rest : List Frame), Taking s f rest 0x02 0 → f.unit = 0 →
    exec .softReset s = .next (State.settle { s with inbound := rest, inHand := .softReset })) ∧
  (∀ s : State, s.inHand = .softReset →
    s.decoderReady = false ∧ s.settle.transmitter = s.transmitter) ∧
  ∀ s : State, s.powered = true → s.inHand = .softReset → s.transmitter = none →
    ∃ u : State, exec .softResetEvent s = .next u.settle ∧
      u = { State.reset with
            pending := s.pending
            profiles := u.profiles
            store := u.store
            startup := none
            cutOffSlot := s.saving.map SaveWrite.slot
            receiver := if s.reception = none then .waiting else .awaitIdle
            straps := s.straps
            marks := { startup := true }
            resetCause := .request } ∧
      (∀ k : Fin 8, u.profiles[k] = { content := (s.profiles[k]).content, lastSave := none }) ∧
      storeAfterCut s u

/-! ### The profile store and the profile requests -/

/-- RECORD_READ (R148, R151, R152): a record passes when its CRC-16 is that of what it holds and it has
not decayed (over which bytes: log 29's choice). In the start-up load one that passes makes its slot READY, a
BLANK one makes it EMPTY, and each sends the load to the next slot; a failed check is tried again, up to
four attempts, and then leaves the slot EMPTY and listed as failed. Of a RECALL in hand, BLANK ends it
with PROFILE_EMPTY, a good record makes the slot READY with its settings and reports the name, and a
fourth failed check ends it with STORE_FAULT, the slot kept as it was. -/
def Obligations.StoreReads : Prop :=
  (∀ (s : State) (l : StartupLoad) (passes : Bool), s.powered = true → s.startup = some l →
    l.slot ≠ 0 →
    ∃ u : State, exec (.recordRead passes) s = .next u.settle ∧
      u = { s with
            profiles := u.profiles, startup := u.startup, failedSlots := u.failedSlots,
            marks := u.marks } ∧
      (∀ k : Fin 8, k ≠ l.slot → u.profiles[k] = s.profiles[k]) ∧
      (u.profiles[l.slot]).lastSave = (s.profiles[l.slot]).lastSave ∧
      (∀ p, (s.record l.slot).reads passes = some p →
        (u.profiles[l.slot]).content = .ready p ∧ u.failedSlots = s.failedSlots ∧
          loadGoesOn s u l.slot) ∧
      (s.record l.slot = .blank →
        (u.profiles[l.slot]).content = .empty ∧ u.failedSlots = s.failedSlots ∧
          loadGoesOn s u l.slot) ∧
      ((s.record l.slot).reads passes = none → s.record l.slot ≠ .blank →
        (l.attempts + 1 < 4 →
          u = { s with startup := some { slot := l.slot, attempts := l.attempts + 1 } }) ∧
        (4 ≤ l.attempts + 1 →
          (u.profiles[l.slot]).content = .empty ∧
          u.failedSlots = s.failedSlots ||| (1#8 <<< l.slot.val) ∧ loadGoesOn s u l.slot))) ∧
  ∀ (s : State) (k : Fin 8) (attempts : Nat) (passes : Bool), s.powered = true →
    s.startup = none → s.inHand = .recall k attempts →
    (s.record k = .blank →
      exec (.recordRead passes) s = .next (State.settle
        { s with
          inHand := .nothing
          replies := s.replies ++
            [{ kind := 0x80, unit := byte k.val
               payload := [0x14, 0x16] ++ s.profileItems k (s.profiles[k]).content }] })) ∧
    (∀ p, (s.record k).reads passes = some p →
      exec (.recordRead passes) s = .next (State.settle
        { s with
          inHand := .nothing
          profiles := s.profiles.set k { s.profiles[k] with content := .ready p }
          replies := s.replies ++
            [{ kind := 0x80, unit := byte k.val
               payload :=
                [0x14, 0x00] ++ s.profileItems k (.ready p) ++ byte p.name.length :: p.name }] })) ∧
    ((s.record k).reads passes = none → s.record k ≠ .blank →
      exec (.recordRead passes) s = .next (State.settle
        (if attempts + 1 < 4 then { s with inHand := .recall k (attempts + 1) }
        else
          { s with
            inHand := .nothing
            replies := s.replies ++
              [{ kind := 0x80, unit := byte k.val
                 payload := [0x14, 0x24] ++ s.profileItems k (s.profiles[k]).content }] })))

/-- PROFILE_RECALL taken, PROFILE_SAVE and SAVE_COMPLETION (R149, R150, R151): a RECALL begins its reads
and the decoder waits, with nothing answered yet; a save of a READY slot hands its settings to the
store and is answered at once; its completion leaves the record with the settings and their CRC-16, or
failing its check, and sets both last save results and the SAVE_DONE mark. The bytes the CRC is taken
over are log 29's choice. -/
def Obligations.SaveAndRecall : Prop :=
  (∀ (s : State) (f : Frame) (rest : List Frame) (k : Fin 8),
    Taking s f rest 0x14 0 → f.unit.toNat = k.val → k ≠ 0 → s.inUse k = 0 →
    s.saveInFlight k = false →
    exec .profileRecall s =
      .next (State.settle { s with inbound := rest, inHand := .recall k 0 })) ∧
  (∀ (s : State) (f : Frame) (rest : List Frame) (k : Fin 8) (p : Profile),
    Taking s f rest 0x13 0 → f.unit.toNat = k.val → k ≠ 0 → s.saving = none →
    (s.profiles[k]).content = .ready p →
    exec .profileSave s = .next (State.settle
      { s.took rest (replyTo f 0x00 [2, byte (s.inUse k), 1]) with
        saving := some { slot := k, contents := p }
        profiles := s.profiles.set k { s.profiles[k] with lastSave := none } })) ∧
  ∀ (s : State) (w : SaveWrite) (passes : Bool), s.powered = true → s.saving = some w →
    w.slot ≠ 0 →
    ∃ u : State, exec (.saveCompletion passes) s = .next u.settle ∧
      u = { s with
            saving := none
            store := u.store
            profiles := s.profiles.set w.slot
              { s.profiles[w.slot] with
                lastSave := some (if passes then SaveResult.ok else SaveResult.storeFault) }
            lastSave := some (w.slot, if passes then SaveResult.ok else SaveResult.storeFault)
            marks := { s.marks with saveDone := true } } ∧
      (passes = true →
        u.record w.slot = .written w.contents (crc16 (settingsBytes w.contents))) ∧
      (passes = false → (u.record w.slot).Fails) ∧
      ∀ k, k ≠ 0 → k ≠ w.slot → u.record k = s.record k

/-- PROFILE_WRITE of each group (R142, R145, R174): an EMPTY slot is first filled from the factory
profile, the group's values replace the old ones after their clamps, the slot becomes DRAFT, and the
reply carries the values as the slot now holds them, CLAMPED when one was clamped. -/
def Obligations.ProfileWriteGroups : Prop :=
  ∀ (s : State) (f : Frame) (rest : List Frame) (k : Fin 8) (old : Profile),
    Taking s f rest 0x10 f.payload.length → f.unit.toNat = k.val → k ≠ 0 → s.inUse k = 0 →
    s.saveInFlight k = false →
    (s.profiles[k]).content.settings.getD factoryProfile = old →
    (∀ b1 b2 b3 b4 b5 b6 b7 b8 : Byte, f.payload = [0, b1, b2, b3, b4, b5, b6, b7, b8] →
      exec .profileWrite s = .next (State.settle
        { s.took rest (replyTo f
            (okOrClamped ([b1, b2, b3, b4, b5, b6, b7, b8].contains 0))
            ([1, 0, 0] ++
              [b1, b2, b3, b4, b5, b6, b7, b8].map fun b => byte (max 1 b.toNat))) with
          profiles := s.profiles.set k
            { s.profiles[k] with
              content := .draft
                { old with
                  y :=
                    { dc := max 1 b1.toNat, s3 := max 1 b2.toNat, s2 := max 1 b3.toNat,
                      s1 := max 1 b4.toNat }
                  c :=
                    { dc := max 1 b5.toNat, s3 := max 1 b6.toNat, s2 := max 1 b7.toNat,
                      s1 := max 1 b8.toNat } } } })) ∧
    (∀ (z : Zone) (w c : Byte) (m : Rounding),
      f.payload = [1, byte z.code, w, c, m.code] →
      exec .profileWrite s = .next (State.settle
        { s.took rest (replyTo f
            (okOrClamped (decide (w.toNat < 8 ∨ 64 < w.toNat ∨ 63 < c.toNat)))
            [1, 0, 0, byte z.code, byte (max 8 (min 64 w.toNat)), byte (min 63 c.toNat),
              m.code]) with
          profiles := s.profiles.set k
            { s.profiles[k] with
              content := .draft (old.setZone z
                { weight := max 8 (min 64 w.toNat), ceiling := min 63 c.toNat, rounding := m }) } })) ∧
    (∀ v : Vector (BitVec 16) 7,
      f.payload = 2 :: v.toList.flatMap (fun x => leBytes 2 x.toNat) →
      exec .profileWrite s = .next (State.settle
        { s.took rest (replyTo f
            (okOrClamped
              ([v[0], v[1], v[2]].any (fun x => decide (x.toInt < 0 ∨ 255 < x.toInt)) ||
                [v[3], v[4], v[5], v[6]].any (fun x => decide (x.toInt < -255 ∨ 255 < x.toInt))))
            (([1, 0, 0] : List Byte) ++
              [v[0], v[1], v[2]].flatMap (fun x => leBytes 2 (max 0 (min 255 x.toInt) : Int).toNat) ++
              [v[3], v[4], v[5], v[6]].flatMap
                (fun x =>
                  leBytes 2 (BitVec.ofInt 16 (max (-255) (min 255 x.toInt))).toNat))) with
          profiles := s.profiles.set k
            { s.profiles[k] with
              content := .draft
                { old with
                  tHi := (max 0 (min 255 v[0].toInt) : Int).toNat
                  tLo := (max 0 (min 255 v[1].toInt) : Int).toNat
                  tSpan := (max 0 (min 255 v[2].toInt) : Int).toNat
                  uLo := max (-255) (min 255 v[3].toInt)
                  uHi := max (-255) (min 255 v[4].toInt)
                  vLo := max (-255) (min 255 v[5].toInt)
                  vHi := max (-255) (min 255 v[6].toInt) } } })) ∧
    ∀ (i : Byte) (name : List Byte), name.length ≤ 255 → f.payload = 3 :: i :: name →
      exec .profileWrite s = .next (State.settle
        { s.took rest (replyTo f
            (okOrClamped (decide (63 < i.toNat ∨ 12 < name.length)))
            ([1, 0, 0, byte (min 63 i.toNat)] ++ name.take 12)) with
          profiles := s.profiles.set k
            { s.profiles[k] with
              content := .draft { old with startIndex := min 63 i.toNat, name := name.take 12 } } })

/-- The refusals of the profile requests in the order of R144, and the fields R145 and R174 refuse: each
leaves the slot and the store as they were and answers the slot's items and what the refusal adds.
That a WRITE refused for its group's length carries the items is log 14's choice; that the zone is
checked before the rounding mode, so that offset 1 is answered when both are bad, is read from the order
of the payload (log 25). -/
def Obligations.ProfileRefusals : Prop :=
  ∀ (s : State) (f : Frame) (rest : List Frame) (k : Fin 8),
    s.decoderReady = true → s.inbound = f :: rest → f.unit.toNat = k.val →
    let refused (c : Instr) (code : Byte) (more : List Byte) : Prop :=
      exec c s = .next (State.settle
        (s.took rest (replyTo f code (s.profileItems k (s.profiles[k]).content ++ more))))
    (f.kind = 0x10 → 1 ≤ f.payload.length → f.payload.length ≤ 257 →
      (k = 0 → refused .profileWrite 0x19 []) ∧
      (k ≠ 0 → 0 < s.inUse k → refused .profileWrite 0x18 []) ∧
      (k ≠ 0 → s.inUse k = 0 → s.saveInFlight k = true → refused .profileWrite 0x1A []) ∧
      (k ≠ 0 → s.inUse k = 0 → s.saveInFlight k = false →
        (∀ (g : Byte) (vs : List Byte), f.payload = g :: vs →
          (4 ≤ g.toNat → refused .profileWrite 0x12 [0]) ∧
          (g = 0 → vs.length ≠ 8 → refused .profileWrite 0x11 []) ∧
          (g = 1 → vs.length ≠ 4 → refused .profileWrite 0x11 []) ∧
          (g = 2 → vs.length ≠ 14 → refused .profileWrite 0x11 []) ∧
          (g = 3 → vs.length = 0 → refused .profileWrite 0x11 [])) ∧
        ∀ z w c m : Byte, f.payload = [1, z, w, c, m] →
          (5 ≤ z.toNat → refused .profileWrite 0x12 [1]) ∧
          (z.toNat ≤ 4 → 3 ≤ m.toNat → refused .profileWrite 0x12 [4]))) ∧
    (f.kind = 0x11 → f.payload = [] → (s.profiles[k]).content = .empty →
      refused .profileCommit 0x16 []) ∧
    (f.kind = 0x13 → f.payload = [] →
      (k = 0 → refused .profileSave 0x19 []) ∧
      (k ≠ 0 → s.saving.isSome = true → refused .profileSave 0x1A []) ∧
      (k ≠ 0 → s.saving = none → (s.profiles[k]).content.isReady = false →
        refused .profileSave 0x17 [])) ∧
    (f.kind = 0x14 → f.payload = [] →
      (k = 0 → refused .profileRecall 0x19 []) ∧
      (k ≠ 0 → 0 < s.inUse k → refused .profileRecall 0x18 []) ∧
      (k ≠ 0 → s.inUse k = 0 → s.saveInFlight k = true → refused .profileRecall 0x1A []))

/-- PROFILE_COMMIT of a slot that is not EMPTY, and PROFILE_READ (R146, R147, R173): a consistent DRAFT
becomes READY; the first bound that fails is named 3, 7 or 11; READY is answered OK; READ reports the
slot and changes nothing. -/
def Obligations.ProfileCommitAndRead : Prop :=
  ∀ (s : State) (f : Frame) (rest : List Frame) (k : Fin 8), f.unit.toNat = k.val →
    (Taking s f rest 0x11 0 →
      (∀ p, (s.profiles[k]).content = .ready p →
        exec .profileCommit s = .next (State.settle
          (s.took rest (replyTo f 0x00 (s.profileItems k (.ready p)))))) ∧
      ∀ p, (s.profiles[k]).content = .draft p →
        (p.Consistent →
          exec .profileCommit s = .next (State.settle
            { s.took rest (replyTo f 0x00 (s.profileItems k (.ready p))) with
              profiles := s.profiles.set k { s.profiles[k] with content := .ready p } })) ∧
        (¬p.Consistent →
          exec .profileCommit s = .next (State.settle
            (s.took rest (replyTo f 0x12 (s.profileItems k (.draft p) ++
              [if p.tHi ≤ p.tLo then 3 else if p.uHi < p.uLo then 7 else 11])))))) ∧
    (Taking s f rest 0x12 0 →
      exec .profileRead s = .next (State.settle
        (s.took rest (replyTo f 0x00 (s.profileItems k (s.profiles[k]).content ++
          ([match (s.profiles[k]).lastSave with
            | none => 0xFF
            | some .ok => 0x00
            | some .storeFault => 0x24] : List Byte) ++
          match (s.profiles[k]).content.settings with
          | none => []
          | some p => settingsBytes p)))))

/-! ### The link -/

/-- The request decoder (R159): a row of the table takes each frame at the head of a ready decoder's
queue. Its own refusals (R159, R61, R144, R173) are of a kind that names no request, a payload length
that is none of its kind's, a device request whose unit is not 0, and a unit above 7 of a profile or
job request. RESOLVE's are in ResolveRefusals. -/
def Obligations.DecoderRefusals : Prop :=
  ∀ (s : State) (f : Frame) (rest : List Frame), s.decoderReady = true → s.inbound = f :: rest →
    let refused (c : Instr) (code : Byte) (data : List Byte) : Prop :=
      exec c s = .next (State.settle (s.took rest (replyTo f code data)))
    (∃ (c : Instr) (t : State), exec c s = .next t ∧ t.inbound = rest) ∧
    ((∀ c, requestKind c ≠ some f.kind) → refused .unknownKind 0x10 []) ∧
    ∀ c, requestKind c = some f.kind → f.kind ≠ 0x24 →
      (lengthFits f.kind f.payload.length = false → refused c 0x11 []) ∧
      (lengthFits f.kind f.payload.length = true →
        (f.kind.toNat ≤ 0x05 → f.unit ≠ 0 → refused c 0x12 [0xFF]) ∧
        (0x10 ≤ f.kind.toNat → f.kind.toNat ≤ 0x14 → 8 ≤ f.unit.toNat → refused c 0x12 [0xFF]) ∧
        (0x20 ≤ f.kind.toNat → f.kind.toNat ≤ 0x2A → 8 ≤ f.unit.toNat → refused c 0x13 []))

/-- INQUIRE (R177, R178): it changes nothing and reports, byte for byte, the identity, the capacities,
the reset cause, the link state, the free slots, the free output bytes and the attention summary. -/
def Obligations.InquireReport : Prop :=
  ∀ (s : State) (f : Frame) (rest : List Frame), Taking s f rest 0x01 0 → f.unit = 0 →
    ∃ attention : Byte,
      (∀ n : Fin 8, attention.getLsbD n.val = true ↔
        (s.job n).state = .halted ∨ (s.job n).flags ≠ {}) ∧
      exec .inquire s = .next (State.settle (s.took rest (replyTo f 0x00
        ([0x56, 0x4F, 0x60, 0x18, Config.revision, 8, 8, 24, 2, 0, 0, 0x10, s.resetCause.code,
          if s.quiet then 1 else 0, byte s.freeSlots] ++ leBytes 3 s.freeSpace ++ [attention]))))

/-- LINK_SET, LINK_CLEAR and LINK_STATUS (R160, R162): the new threshold, 0 clamped to 1, with the
counter lowered to it; the clear of counter, totals and quiet state; the report. That LINK CLEAR's reply
carries the link state, the counter and the four totals is log 13's choice. -/
def Obligations.LinkRequests : Prop :=
  ∀ (s : State) (f : Frame) (rest : List Frame), f.unit = 0 →
    (∀ b : Byte, Taking s f rest 0x03 1 → f.payload = [b] →
      exec .linkSet s = .next (State.settle
        { s.took rest (replyTo f (okOrClamped (b == 0))
            [byte (max 1 b.toNat), byte (min s.errorCounter (max 1 b.toNat))]) with
          threshold := max 1 b.toNat
          errorCounter := min s.errorCounter (max 1 b.toNat) })) ∧
    (Taking s f rest 0x04 0 →
      exec .linkClear s = .next (State.settle
        { s.took rest (replyTo f 0x00 (List.replicate 10 0)) with
          errorCounter := 0
          totals := {}
          quiet := false
          marks := { s.marks with linkQuiet := s.marks.linkQuiet || s.quiet } })) ∧
    (Taking s f rest 0x05 0 →
      exec .linkStatus s = .next (State.settle (s.took rest (replyTo f 0x00
        ([if s.quiet then 1 else 0, byte s.errorCounter, byte s.threshold] ++
          leBytes 2 s.totals.bad ++ leBytes 2 s.totals.noisy ++ leBytes 2 s.totals.overrun ++
          leBytes 2 s.totals.breaks ++
          [(if s.straps.strap1 then 2 else 0) + (if s.straps.strap0 then 1 else 0)])))))

/-- CHARACTER, BREAK and RETURN_TO_MARK (R154, R155, R156): a false start changes nothing; a byte joins
the frame in reception, which keeps at most 4,103; a framing error marks the frame and waits for mark;
a break discards the frame and is counted; noise marks the frame. While the receiver does not wait for a
start bit no character and no break is taken. Read from the spec by inference: that characters past
byte 4,103 still mark the frame (log 27). The model's choice: that RETURN_TO_MARK ends the wait for idle
after a soft reset, and that a break in that wait is not counted (log 17). A CHARACTER whose samples spell
a break is one (log 26). -/
def Obligations.CharactersReceived : Prop :=
  (∀ (s : State) (samples : CharacterSamples) (data : Byte), s.powered = true → s.receiver = .waiting →
    (∀ i : Fin 8, data.getLsbD i.val = (samples[i.val + 1]).majority) →
    let noisy := decide (∃ i : Fin 10, (samples[i]).disagrees = true)
    let joined (framing : Bool) : Reception :=
      match s.reception with
      | none => { bytes := [data], framingError := framing, noisy := noisy }
      | some r =>
        { bytes := if r.bytes.length < 4103 then r.bytes ++ [data] else r.bytes
          framingError := r.framingError || framing
          noisy := r.noisy || noisy }
    (samples[0].majority = true → exec (.character samples) s = .next s.settle) ∧
    (samples[0].majority = false → samples[9].majority = true →
      exec (.character samples) s = .next (State.settle { s with reception := some (joined false) })) ∧
    (samples[0].majority = false → samples[9].majority = false → data ≠ 0 →
      exec (.character samples) s = .next (State.settle
        { s with reception := some (joined true), receiver := .awaitMark })) ∧
    (samples[0].majority = false → samples[9].majority = false → data = 0 →
      exec (.character samples) s = exec .breakCharacter s)) ∧
  ∀ s : State, s.powered = true →
    (s.receiver = .waiting →
      exec .breakCharacter s = .next (State.settle
        { s with
          reception := none
          receiver := .awaitIdle
          totals := { s.totals with breaks := risen s.totals.breaks } })) ∧
    (s.receiver ≠ .waiting →
      (∀ samples, exec (.character samples) s = .next s) ∧ exec .breakCharacter s = .next s ∧
      exec .returnToMark s = .next (State.settle { s with receiver := .waiting }))

/-- FRAME_CLOSE of a good frame (R157, R158): the frame whose bytes were received joins the inbound
queue, the error counter falls and a noisy frame is counted; at a full queue the frame is dropped and the
overrun total rises. That the receiver then waits for a start bit, whatever it waited for, is read from
the spec by inference (log 16). -/
def Obligations.GoodFrameCloses : Prop :=
  ∀ (s : State) (r : Reception), s.powered = true → s.reception = some r → ¬badReception r →
    ∃ f : Frame, f.bytes = r.bytes ∧
      exec .frameClose s = .next (State.settle
        (if s.inbound.length < 8 then
          { s with
            reception := none
            receiver := .waiting
            inbound := s.inbound ++ [f]
            errorCounter := s.errorCounter - 1
            totals :=
              if r.noisy then { s.totals with noisy := risen s.totals.noisy } else s.totals }
        else
          { s with
            reception := none
            receiver := .waiting
            totals := { s.totals with overrun := risen s.totals.overrun } }))

/-- FRAME_CLOSE of a bad frame (R157, R160, R161): it is discarded and counted, and the error counter
receives an increment; at the threshold the increment overflows, and a link not yet quiet falls quiet:
every RUNNING job is paused and the LINK_QUIET mark is set. That the receiver then waits for a start bit,
after a framing error too, is read from the spec by inference (log 16). -/
def Obligations.BadFrameCloses : Prop :=
  ∀ (s : State) (r : Reception), s.powered = true → s.reception = some r → badReception r →
    ∃ u : State, exec .frameClose s = .next u.settle ∧
      u = { s with
            reception := none
            receiver := .waiting
            totals := { s.totals with bad := risen s.totals.bad }
            errorCounter := u.errorCounter
            quiet := u.quiet
            marks := u.marks
            jobs := u.jobs } ∧
      (s.errorCounter < s.threshold →
        u.errorCounter = s.errorCounter + 1 ∧ u.quiet = s.quiet ∧ u.marks = s.marks ∧
          u.jobs = s.jobs) ∧
      (s.threshold ≤ s.errorCounter → s.quiet = true →
        u.errorCounter = s.errorCounter ∧ u.quiet = true ∧ u.marks = s.marks ∧ u.jobs = s.jobs) ∧
      (s.threshold ≤ s.errorCounter → s.quiet = false →
        u.errorCounter = s.errorCounter ∧ u.quiet = true ∧
          u.marks = { s.marks with linkQuiet := true } ∧
          ∀ j, u.job j =
            if (s.job j).state = .running then
              (s.job j).moved (if s.passInFlight j then .stopping .pause else .paused)
            else s.job j)

/-- The line and TRANSMIT_END (R111, R163, R164, R166): while a frame is sent the line carries the ten bits
of each of its characters back to back, start bit at space, data bits least significant first, stop bit
at mark, and then mark; with nothing to send it is at mark. At the end, a reply sent leaves the reply
queue; a segment's bytes count as sent on the oldest record, which leaves the list with its last byte; a
notice leaves nothing behind. -/
def Obligations.TransmitEnds : Prop :=
  (∀ (s : State) (n : Nat), s.transmitter = none → s.lineAt n = true) ∧
  (∀ (s : State) (t : Transmission), s.transmitter = some t →
    (∀ (i : Nat) (b : Byte), t.frame.bytes[i]? = some b →
      s.lineAt (10 * i) = false ∧ (∀ k : Fin 8, s.lineAt (10 * i + 1 + k.val) = b.getLsbD k.val) ∧
        s.lineAt (10 * i + 9) = true) ∧
    ∀ n, 10 * t.frame.bytes.length ≤ n → s.lineAt n = true) ∧
  ∀ (s : State) (t : Transmission), s.powered = true → s.transmitter = some t →
    (t.sending = .reply →
      exec .transmitEnd s = .next (State.settle
        { s with transmitter := none, replies := s.replies.drop 1 })) ∧
    (t.sending = .notice →
      exec .transmitEnd s = .next (State.settle { s with transmitter := none })) ∧
    ∀ (n : Nat) (r : OutRecord) (rs : List OutRecord), t.sending = .segment n →
      s.records = r :: rs →
      exec .transmitEnd s = .next (State.settle
        { s with
          transmitter := none
          records :=
            if r.sent + n < r.bytes.length then { r with sent := r.sent + n } :: rs else rs })

/-! ### Job requests -/

/-- JOB_OPEN accepted (R1, R37, R41, R44, R69, R70): the FREE context takes the geometry, the effective
values and the FREE values of the rest; the reply carries the effective values, K, N and F(K). That the
reply carries reload 1 when there is no timer part is log 10's choice. -/
def Obligations.JobOpenAccepted : Prop :=
  ∀ (s : State) (f : Frame) (rest : List Frame) (j k : Fin 8) (p : Profile) (r : OpenRequest),
    Taking s f rest 0x20 f.payload.length → f.payload.length = 18 ∨ f.payload.length = 22 →
    f.unit.toNat = j.val → openRequestOf f.payload = r → (s.job j).state = .free →
    r.profile = k.val → (s.profiles[k]).content = .ready p →
    1 ≤ r.width → r.width ≤ 8192 → 1 ≤ r.height → r.tag ≤ 4095 → r.mask ≤ 4095 →
    (∀ t ∈ r.timer, t.mode ≤ 2 ∧ t.selector ≤ 3) →
    (∀ i, (s.job i).state ≠ .free → (s.job i).state ≠ .done →
      (s.job i).width ≠ r.width ∨ (s.job i).height ≠ r.height →
      (BitVec.ofNat 12 r.tag ^^^ (s.job i).tag) &&& BitVec.ofNat 12 r.mask &&& (s.job i).mask ≠ 0) →
    let columns := (r.width + 7) / 8
    let bands := (r.height + 15) / 16
    let floor := max 256 ((122 * columns + 7) / 8)
    let budget := max floor (min 196608 r.budget)
    let index := if r.startIndex = 255 then p.startIndex else min 63 r.startIndex
    let reload := r.timer.elim 1 (fun t => max 1 t.reload)
    let clamped :=
      budget != r.budget || decide (63 < r.startIndex ∧ r.startIndex ≠ 255) ||
        decide (3 < r.priority) || decide (3 < r.noticeLevel) ||
        r.timer.any (fun t => t.reload == 0)
    exec .jobOpen s = .next (State.settle
      ((s.took rest (replyTo f (okOrClamped clamped)
          (leBytes 3 budget ++ [byte index, byte (min 3 r.priority), byte (min 3 r.noticeLevel)] ++
            leBytes 2 reload ++ leBytes 2 columns ++ leBytes 2 bands ++ leBytes 3 floor))).setJob j
        { freeJob with
          state := .opened
          profile := some k
          width := r.width
          height := r.height
          columns := columns
          bands := bands
          budget := budget
          index := index
          priority := min 3 r.priority
          tag := BitVec.ofNat 12 r.tag
          mask := BitVec.ofNat 12 r.mask
          halts := r.halts
          noticeLevel := min 3 r.noticeLevel
          noticeKinds := r.noticeKinds
          noticePending := { state := decide (1 ≤ r.noticeLevel) && r.noticeKinds.state }
          timer :=
            { idleTimer with
              mode := r.timer.elim .off fun t => (timerModeOf t.mode).getD .off
              interval :=
                { reload := reload
                  prescale := r.timer.elim .by1 fun t => (prescaleOf t.selector).getD .by1 } } }))

/-- JOB_OPEN refused, in R67's order: state, profile slot number, profile state, the first bad field,
the lowest-numbered clashing job (R68). Nothing but the reply results. That the reply carries the state of
the context, and that ahead of the offset or the clashing job, is log 10's choice. -/
def Obligations.JobOpenRefused : Prop :=
  ∀ (s : State) (f : Frame) (rest : List Frame) (j : Fin 8) (r : OpenRequest),
    Taking s f rest 0x20 f.payload.length → f.payload.length = 18 ∨ f.payload.length = 22 →
    f.unit.toNat = j.val → openRequestOf f.payload = r →
    let refused (code : Byte) (more : List Byte) : Prop :=
      exec .jobOpen s = .next (State.settle
        (s.took rest (replyTo f code ((s.job j).state.code :: more))))
    let clashes (i : Fin 8) : Prop :=
      (s.job i).state ≠ .free ∧ (s.job i).state ≠ .done ∧
        ((s.job i).width ≠ r.width ∨ (s.job i).height ≠ r.height) ∧
        (BitVec.ofNat 12 r.tag ^^^ (s.job i).tag) &&& BitVec.ofNat 12 r.mask &&& (s.job i).mask = 0
    ((s.job j).state ≠ .free → refused 0x14 []) ∧
    ((s.job j).state = .free →
      (8 ≤ r.profile → refused 0x12 [0]) ∧
      ∀ k : Fin 8, r.profile = k.val →
        ((s.profiles[k]).content = .empty → refused 0x16 []) ∧
        (∀ p, (s.profiles[k]).content = .draft p → refused 0x17 []) ∧
        ∀ p, (s.profiles[k]).content = .ready p →
          (r.width = 0 ∨ 8192 < r.width → refused 0x12 [1]) ∧
          (1 ≤ r.width → r.width ≤ 8192 →
            (r.height = 0 → refused 0x12 [3]) ∧
            (1 ≤ r.height →
              (4095 < r.tag → refused 0x12 [11]) ∧
              (r.tag ≤ 4095 →
                (4095 < r.mask → refused 0x12 [13]) ∧
                (r.mask ≤ 4095 →
                  (∀ t ∈ r.timer,
                    (2 < t.mode → refused 0x12 [18]) ∧
                    (t.mode ≤ 2 → 3 < t.selector → refused 0x12 [21])) ∧
                  ((∀ t ∈ r.timer, t.mode ≤ 2 ∧ t.selector ≤ 3) →
                    ∀ i, clashes i → (∀ n, clashes n → i ≤ n) → refused 0x1B [byte i.val]))))))

/-- A job request in a state it is not taken in is refused with WRONG_STATE and changes nothing; the
reply carries the state of the context (R61). -/
def Obligations.WrongStateRefused : Prop :=
  ∀ row ∈ jobRows, ∀ (s : State) (f : Frame) (rest : List Frame) (j : Fin 8),
    Taking s f rest row.kind row.length → f.unit.toNat = j.val →
    row.taken (s.job j).state = false →
    exec row.command s = .next (State.settle
      (s.took rest (replyTo f 0x14 [(s.job j).state.code])))

/-- START, PAUSE and RESUME (R71, R72, R73, R133): an OPEN job becomes RUNNING and a PACED or PAGE timer
begins its first interval; the four states PAUSE is taken in; a PAUSED job goes on, to DONE when
E equals N, and a pending PAUSE is removed; while the link is quiet START and RESUME are refused with LINK_QUIET. -/
def Obligations.StartPauseResume : Prop :=
  ∀ (s : State) (f : Frame) (rest : List Frame) (j : Fin 8), f.unit.toNat = j.val →
    (Taking s f rest 0x21 0 → (s.job j).state = .opened →
      (s.quiet = true →
        exec .jobStart s = .next (State.settle (s.took rest (replyTo f 0x15 [1])))) ∧
      (s.quiet = false →
        exec .jobStart s = .next (State.settle
          ((s.took rest (replyTo f 0x00 [2])).setJob j
            { (s.job j).moved .running with
              timer :=
                if (s.job j).timer.mode = .off then (s.job j).timer
                else
                  { (s.job j).timer.began (s.job j).timer.interval with running := true } })))) ∧
    (Taking s f rest 0x22 0 →
      ((s.job j).state = .running → s.passInFlight j = false →
        exec .jobPause s = .next (State.settle
          ((s.took rest (replyTo f 0x00 [4])).setJob j ((s.job j).moved .paused)))) ∧
      ((s.job j).state = .running → s.passInFlight j = true →
        exec .jobPause s = .next (State.settle
          ((s.took rest (replyTo f 0x00 [3])).setJob j ((s.job j).moved (.stopping .pause))))) ∧
      (∀ r, (s.job j).state = .stopping r →
        exec .jobPause s = .next (State.settle (s.took rest (replyTo f 0x00 [3])))) ∧
      ((s.job j).state = .paused →
        exec .jobPause s = .next (State.settle (s.took rest (replyTo f 0x00 [4]))))) ∧
    (Taking s f rest 0x23 0 →
      ((s.job j).state = .paused ∨ (s.job j).state = .stopping .pause → s.quiet = true →
        exec .jobResume s = .next (State.settle
          (s.took rest (replyTo f 0x15 [(s.job j).state.code])))) ∧
      (s.quiet = false →
        ((s.job j).state = .stopping .pause →
          exec .jobResume s = .next (State.settle
            ((s.took rest (replyTo f 0x00 [2])).setJob j ((s.job j).moved .running)))) ∧
        ((s.job j).state = .paused → (s.job j).emitted ≠ (s.job j).bands →
          exec .jobResume s = .next (State.settle
            ((s.took rest (replyTo f 0x00 [2])).setJob j ((s.job j).moved .running)))) ∧
        ((s.job j).state = .paused → (s.job j).emitted = (s.job j).bands →
          exec .jobResume s = .next (State.settle
            ((s.took rest (replyTo f 0x00 [6])).setJob j
              { (s.job j).moved .done with
                timer := { (s.job j).timer with running := false, buffered := none } })))))

/-- ABORT and CLOSE (R66, R76, R78, R95, R113): the context takes its FREE values, its reservation with
them; a lane that codes the job becomes IDLE; the job leaves every slot; committed records stay. ABORT's
reply carries FREE, then the state, L and E the job had; CLOSE's FREE, then L and E. -/
def Obligations.AbortAndClose : Prop :=
  ∀ (s : State) (f : Frame) (rest : List Frame) (j : Fin 8), f.unit.toNat = j.val →
    let emptied (u : State) (reply : Frame) : Prop :=
      u = { s.took rest reply with
            jobs := s.jobs.set j freeJob, lanes := u.lanes, slots := u.slots } ∧
      (∀ l : Fin 2, u.lanes[l] = (s.lanes[l]).filter fun p => p.job != j) ∧
      ∀ k : Fin 24, u.slots[k] = slotWithout j s.slots[k]
    (Taking s f rest 0x25 0 → (s.job j).state ≠ .free →
      ∃ u : State, exec .jobAbort s = .next u.settle ∧
        emptied u (replyTo f 0x00 ([0, (s.job j).state.code] ++ leBytes 2 (s.job j).loaded ++
          leBytes 2 (s.job j).emitted))) ∧
    (Taking s f rest 0x26 0 → (s.job j).state = .opened ∨ (s.job j).state = .done →
      ∃ u : State, exec .jobClose s = .next u.settle ∧
        emptied u (replyTo f 0x00 ([0] ++ leBytes 2 (s.job j).loaded ++
          leBytes 2 (s.job j).emitted)))

/-- JOB_STATUS (R81, R175): it changes nothing, and every field of the context stands at its place in
the 72 bytes of data. -/
def Obligations.JobStatusReport : Prop :=
  ∀ (s : State) (f : Frame) (rest : List Frame) (j : Fin 8), Taking s f rest 0x27 0 →
    f.unit.toNat = j.val → (s.job j).ready.length ≤ 4 →
    ∃ d : List Byte,
      exec .jobStatus s = .next (State.settle (s.took rest (replyTo f 0x00 d))) ∧
      d.length = 72 ∧
      d.take 3 = [(s.job j).state.code, (s.job j).state.stopCode,
        (s.job j).profile.elim 0xFF (fun k => byte k.val)] ∧
      (field d 3 2 = (s.job j).width % 65536 ∧ field d 5 2 = (s.job j).height % 65536 ∧
        field d 7 2 = (s.job j).columns % 65536 ∧ field d 9 2 = (s.job j).bands % 65536) ∧
      (field d 11 3 = (s.job j).budget % 16777216 ∧ field d 14 1 = (s.job j).index % 256 ∧
        field d 15 1 = (s.job j).nextPass.number ∧ field d 16 1 = (s.job j).priority % 256) ∧
      (field d 17 2 = (s.job j).tag.toNat ∧ field d 19 2 = (s.job j).mask.toNat) ∧
      ((d.drop 21).take 3 =
        [(s.job j).halts.toByte, (s.job j).causes.toByte, (s.job j).flags.toByte]) ∧
      ((d.drop 24).take 3 =
        [byte (s.job j).noticeLevel, (s.job j).noticeKinds.toByte,
          (s.job j).noticePending.toByte]) ∧
      (d.drop 27).take 10 = timerFields (s.job j).timer ∧
      (field d 37 2 = (s.job j).loaded % 65536 ∧ field d 39 2 = (s.job j).emitted % 65536 ∧
        field d 41 2 = (s.job j).due % 65536) ∧
      (d.drop 43).take 1 =
        [flagByte [(s.job j).loading.isSome, s.passInFlight j, (s.job j).withheld.isSome]] ∧
      (d.drop 44).take 3 =
        (match (s.job j).loading with
          | some k => leBytes 2 (s.bandIn k) ++ [byte (s.rowsIn k)]
          | none => [0, 0, 0]) ∧
      field d 47 1 = (s.job j).ready.length ∧
      (∀ (i : Nat) (k : Fin 24), (s.job j).ready[i]? = some k →
        field d (48 + 2 * i) 2 = s.bandIn k % 65536) ∧
      (d.drop 56).take 6 =
        (match s.coding j with
          | some (l, p) =>
            leBytes 2 p.band ++ [byte p.pass.number, byte l.val] ++ leBytes 2 p.column
          | none => [0, 0, 0, 0, 0, 0]) ∧
      (d.drop 62).take 7 =
        (match (s.job j).withheld with
          | some w =>
            leBytes 2 w.band ++ [byte w.pass.number, flagByte [w.complete, w.fits]] ++
              leBytes 3 w.stored
          | none => [0, 0, 0, 0, 0, 0, 0]) ∧
      field d 69 3 = ((s.job j).reservation.elim 0 Reservation.size) % 16777216

/-- CLEAR_FLAGS and SET_ENABLES (R79, R80): the flag set is emptied and reported as it stood; the halt
enables, level and kinds are replaced, a level above 3 clamped; level 0 empties the pending set and a
disabled kind loses its mark. -/
def Obligations.ClearFlagsAndSetEnables : Prop :=
  ∀ (s : State) (f : Frame) (rest : List Frame) (j : Fin 8), f.unit.toNat = j.val →
    (Taking s f rest 0x28 0 → (s.job j).state ≠ .free →
      exec .clearFlags s = .next (State.settle
        ((s.took rest (replyTo f 0x00 [(s.job j).flags.toByte])).setJob j
          { s.job j with flags := {} }))) ∧
    ∀ h l k : Byte, Taking s f rest 0x29 3 → f.payload = [h, l, k] → (s.job j).state ≠ .free →
      (s.job j).state ≠ .halted →
      exec .setEnables s = .next (State.settle
        ((s.took rest (replyTo f (okOrClamped (decide (3 < l.toNat)))
            [h &&& 0x0F, byte (min 3 l.toNat), k &&& 0x03])).setJob j
          { s.job j with
            halts := conditionsOfByte h
            noticeLevel := min 3 l.toNat
            noticeKinds := noticeKindsOfByte k
            noticePending :=
              if l = 0 then {}
              else
                { state := (s.job j).noticePending.state && k.getLsbD 0
                  condition := (s.job j).noticePending.condition && k.getLsbD 1 } }))

/-- RETIME (R138, R139): refused in FREE, for a mode or selector that names none, and for a change of
mode outside OPEN; else it replaces the timer's settings in OPEN, buffers them on a running PACED timer,
restarts a running PAGE timer, and is without effect on a stopped one. The reply carries the timer
fields. Log 10's choices: that they stand in the order JOB STATUS has them, the running bit ahead of the
buffered reload and an absent one as zeros; and that a refusal carries the state of the context before
them, and BAD_FIELD's offset after them. That the mode is checked before the prescale selector, so that
offset 0 is answered when both are bad, is read from the order of the payload (log 25). -/
def Obligations.RetimeJob : Prop :=
  ∀ (s : State) (f : Frame) (rest : List Frame) (j : Fin 8) (m x0 x1 p : Byte),
    Taking s f rest 0x2A 4 → f.unit.toNat = j.val → f.payload = [m, x0, x1, p] →
    let refused (code : Byte) (more : List Byte) : Prop :=
      exec .retime s = .next (State.settle (s.took rest (replyTo f code
        ((s.job j).state.code :: (timerFields (s.job j).timer ++ more)))))
    let reload := x0.toNat + 256 * x1.toNat
    ((s.job j).state = .free → refused 0x14 []) ∧
    ((s.job j).state ≠ .free →
      (3 ≤ m.toNat → refused 0x12 [0]) ∧
      (m.toNat ≤ 2 → 4 ≤ p.toNat → refused 0x12 [3]) ∧
      ∀ (mode : TimerMode) (prescale : Prescale), m = mode.code → p = prescale.code →
        ((s.job j).state ≠ .opened → mode ≠ (s.job j).timer.mode → refused 0x14 []) ∧
        ((s.job j).state = .opened ∨ mode = (s.job j).timer.mode →
          ∃ t : Timer,
            exec .retime s = .next (State.settle
              ((s.took rest (replyTo f (okOrClamped (reload == 0)) (timerFields t))).setJob j
                { s.job j with timer := t })) ∧
            ((s.job j).state = .opened →
              t = { (s.job j).timer with
                    mode := mode
                    interval := { reload := max 1 reload, prescale := prescale } }) ∧
            ((s.job j).state ≠ .opened → (s.job j).timer.running = false →
              t = (s.job j).timer) ∧
            ((s.job j).state ≠ .opened → (s.job j).timer.running = true → mode = .paced →
              t = { (s.job j).timer with
                    buffered := some { reload := max 1 reload, prescale := prescale } }) ∧
            ((s.job j).state ≠ .opened → (s.job j).timer.running = true → mode = .page →
              t = (s.job j).timer.began { reload := max 1 reload, prescale := prescale })))

/-! ### RESOLVE -/

/-- A RESOLVE refused (R123, R159, R173): its length, its unit, a job that is not HALTED, the quiet
state, the action and pass fields, the withheld band's presence, and its fit; the reply carries the
withheld band when there is one. That each of the five rows takes a frame that names no action, and
that a frame of wrong length goes by its first byte, is log 9's choice; the state of the context ahead
of the withheld band is log 11's. -/
def Obligations.ResolveRefusals : Prop :=
  ∀ row ∈ resolveRows, ∀ (s : State) (f : Frame) (rest : List Frame),
    s.decoderReady = true → s.inbound = f :: rest → f.kind = 0x24 →
    (field f.payload 0 1 = row.2 ∨ 5 ≤ field f.payload 0 1) →
    let refused (code : Byte) (data : List Byte) : Prop :=
      exec row.1 s = .next (State.settle (s.took rest (replyTo f code data)))
    (f.payload.length ≠ 7 → refused 0x11 []) ∧
    (f.payload.length = 7 →
      (8 ≤ f.unit.toNat → refused 0x13 []) ∧
      ∀ j : Fin 8, f.unit.toNat = j.val →
        ((s.job j).state ≠ .halted → refused 0x14 [(s.job j).state.code]) ∧
        ((s.job j).state = .halted →
          (s.quiet = true → refused 0x15 (5 :: withheldBytes (s.job j).withheld)) ∧
          (s.quiet = false →
            (5 ≤ field f.payload 0 1 →
              refused 0x12 (5 :: (withheldBytes (s.job j).withheld ++ [0]))) ∧
            (field f.payload 0 1 = 1 → field f.payload 1 1 ≠ 1 → field f.payload 1 1 ≠ 2 →
              refused 0x12 (5 :: (withheldBytes (s.job j).withheld ++ [1]))) ∧
            (field f.payload 0 1 ≤ 3 →
              (field f.payload 0 1 = 1 → field f.payload 1 1 = 1 ∨ field f.payload 1 1 = 2) →
              (s.job j).withheld = none → refused 0x14 [5]) ∧
            ∀ w, (s.job j).withheld = some w →
              (field f.payload 0 1 = 4 → refused 0x14 (5 :: withheldBytes (some w))) ∧
              (field f.payload 0 1 = 0 → w.complete = false ∨ w.fits = false →
                refused 0x23 (5 :: withheldBytes (some w))))))

/-- ACCEPT and DROP (R108, R109, R124, R127): the withheld band, or a header alone with pass 0 and
DROPPED, joins the output queue with the commit count as its mark; the reservation ends, the job leaves
the slot, E rises, the next pass is 1, and the job is DONE when E then equals N, RUNNING otherwise. The
reply carries the state, E and the mark. -/
def Obligations.AcceptAndDrop : Prop :=
  ∀ (s : State) (f : Frame) (rest : List Frame) (j : Fin 8) (w : Withheld) (r : Reservation),
    Taking s f rest 0x24 7 → f.unit.toNat = j.val → (s.job j).state = .halted →
    s.quiet = false → (s.job j).withheld = some w → (s.job j).reservation = some r →
    let st : JobState :=
      if (s.job j).emitted + 1 = (s.job j).bands then .done else .running
    let committed (record : OutRecord) : State :=
      State.settle
        { (s.took rest (replyTo f 0x00
            ([st.code] ++ leBytes 2 ((s.job j).emitted + 1) ++ [s.commitCount]))).setJob j
            ((s.job j).banked st) with
          records := s.records ++ [record]
          commitCount := s.commitCount + 1
          slots := s.slots.set w.slot (slotWithout j s.slots[w.slot]) }
    (field f.payload 0 1 = 0 → w.complete = true → w.fits = true →
      exec .accept s = .next (committed
        (bandRecord s j w.band w.pass.number w.clippedMark (w.pass == .two) false true w.startIndex
          (r.area.take w.stored)))) ∧
    (field f.payload 0 1 = 3 →
      exec .drop s = .next (committed
        (bandRecord s j w.band 0 false false true false (s.job j).index [])))

/-- RETRY, DEGRADE and CONTINUE (R44, R57, R125, R126, R128): the withheld band's slot goes to the head
of the ready queue, its reservation returns, and the job is RUNNING with the next pass named, or pass 3;
RETRY sets S and, when present, B, each clamped. CONTINUE makes a job halted without a withheld band
RUNNING and changes nothing else. That the replies to DEGRADE and CONTINUE carry the state and E alone is
read from the spec by inference (log 12). -/
def Obligations.RetryDegradeContinue : Prop :=
  ∀ (s : State) (f : Frame) (rest : List Frame) (j : Fin 8),
    Taking s f rest 0x24 7 → f.unit.toNat = j.val → (s.job j).state = .halted →
    s.quiet = false →
    (∀ w, (s.job j).withheld = some w →
      (∀ (pass : Pass) (i b0 b1 b2 b3 : Byte), pass ≠ .three →
        f.payload = [1, byte pass.number, i, b0, b1, b2, b3] →
        let requested := b0.toNat + 256 * (b1.toNat + 256 * (b2.toNat + 256 * b3.toNat))
        let floor := max 256 ((122 * (s.job j).columns + 7) / 8)
        let budget :=
          if requested = 0 then (s.job j).budget else max floor (min 196608 requested)
        exec .retry s = .next (State.settle
          ((s.took rest (replyTo f
              (okOrClamped (decide (63 < i.toNat ∨ requested ≠ 0 ∧ budget ≠ requested)))
              ([2] ++ leBytes 2 (s.job j).emitted ++ [byte (min 63 i.toNat)] ++
                leBytes 3 budget ++ [byte pass.number]))).setJob j
            { (s.job j).moved .running with
              index := min 63 i.toNat
              budget := budget
              reservation := none
              withheld := none
              ready := w.slot :: (s.job j).ready
              nextPass := pass }))) ∧
      (field f.payload 0 1 = 2 →
        exec .degrade s = .next (State.settle
          ((s.took rest (replyTo f 0x00 ([2] ++ leBytes 2 (s.job j).emitted))).setJob j
            { (s.job j).moved .running with
              reservation := none
              withheld := none
              ready := w.slot :: (s.job j).ready
              nextPass := .three })))) ∧
    ((s.job j).withheld = none → field f.payload 0 1 = 4 →
      exec .continueJob s = .next (State.settle
        ((s.took rest (replyTo f 0x00 ([2] ++ leBytes 2 (s.job j).emitted))).setJob j
          ((s.job j).moved .running))))

/-! ### Pixels -/

/-- PIXELS refused, in R87's order, with the data of R91: the quiet state, the tag, no target, a band
not expected, a changed set, no credit, no slot; then the data checks of R90 on the slot the frame
continues or would begin. Nothing but the reply results. The rows complete for a tag above 4,095 are
those for its low twelve bits (log 15's choice); the offset byte after them is log 14's. -/
def Obligations.PixelsRefused : Prop :=
  ∀ (s : State) (f : Frame) (rest : List Frame) (q : PixelsRequest) (rows : Byte),
    Taking s f rest 0x30 f.payload.length → 9 ≤ f.payload.length →
    pixelsRequestOf f.payload = q → refusedRows s q.tag rows →
    let refused (code : Byte) (more : List Byte) : Prop :=
      exec .pixels s = .next (State.settle
        (s.took rest (replyTo f code ([rows, byte s.freeSlots] ++ more))))
    (s.quiet = true → refused 0x15 []) ∧
    (s.quiet = false →
      (4095 < q.tag → refused 0x12 [0]) ∧
      (q.tag ≤ 4095 →
        ((∀ j, ¬targets s q.tag j) → refused 0x1C []) ∧
        (∀ j, targets s q.tag j →
          ((s.job j).loaded ≠ q.band ∨ (s.job j).bands ≤ (s.job j).loaded) →
          (∀ i, i < j → targets s q.tag i →
            (s.job i).loaded = q.band ∧ (s.job i).loaded < (s.job i).bands) →
          refused 0x1D ([byte j.val] ++ leBytes 2 (s.job j).loaded)) ∧
        ((∀ j, targets s q.tag j →
            (s.job j).loaded = q.band ∧ (s.job j).loaded < (s.job j).bands) →
          (∀ (j : Fin 8) (k : Fin 24) (b : BandSlot), targets s q.tag j →
            (s.job j).loading = some k → s.slots[k] = some b →
            (∀ i, i < j → targets s q.tag i → (s.job i).loading = none) →
            ¬continues s q k b →
            refused 0x1E ([byte j.val] ++ leBytes 2 b.band ++ leBytes 2 b.tag.toNat ++ [b.refs])) ∧
          ((∀ j, targets s q.tag j → (s.job j).loading = none) →
            (∀ j, targets s q.tag j → 4 ≤ (s.job j).loaded - (s.job j).emitted →
              (∀ i, i < j → targets s q.tag i → (s.job i).loaded - (s.job i).emitted < 4) →
              refused 0x1F ([byte j.val] ++ leBytes 2 (s.job j).loaded ++
                leBytes 2 (s.job j).emitted)) ∧
            ((∃ j, targets s q.tag j) →
              (∀ j, targets s q.tag j → (s.job j).loaded - (s.job j).emitted < 4) →
              (∀ k : Fin 24, s.slots[k] ≠ none) → refused 0x20 []))))) ∧
    ∀ k b, admitted s q k b →
      (q.count = 0 ∨ 1024 < q.count → refused 0x12 [7]) ∧
      (1 ≤ q.count → q.count ≤ 1024 →
        (b.rowsNeeded ≤ q.row → refused 0x12 [4]) ∧
        (q.row < b.rowsNeeded →
          (q.x ≠ b.received q.row → refused 0x21 []) ∧
          (q.x = b.received q.row →
            (b.width < q.x + q.count → refused 0x22 []) ∧
            (q.x + q.count ≤ b.width → f.payload.length ≠ 9 + 3 * q.count →
              refused 0x11 []))))

/-- PIXELS accepted (R89, R92): the slot is allocated or found, it is every target's loading slot, and
the write of the frame's pixels is in hand; nothing is answered yet. -/
def Obligations.PixelsAccepted : Prop :=
  ∀ (s : State) (f : Frame) (rest : List Frame) (q : PixelsRequest) (k : Fin 24) (b : BandSlot)
    (px : List Rgb),
    Taking s f rest 0x30 (9 + 3 * q.count) → pixelsRequestOf f.payload = q → admitted s q k b →
    1 ≤ q.count → q.count ≤ 1024 → q.row < b.rowsNeeded → q.x = b.received q.row →
    q.x + q.count ≤ b.width → f.payload.drop 9 = px.flatMap (fun p => [p.r, p.g, p.b]) →
    ∃ u : State, exec .pixels s = .next u.settle ∧
      u = { s with
            inbound := rest
            slots := s.slots.set k (some b)
            jobs := u.jobs
            inHand := .pixels { unit := f.unit, slot := k, row := q.row, pixels := px } } ∧
      ∀ j,
        (targets s q.tag j → u.job j = { s.job j with loading := some k }) ∧
        (¬targets s q.tag j → u.job j = s.job j)

/-- PIXELS_WRITE_COMPLETE (R92, R94): the pixels stand at the end of their row; the reply carries the rows
complete and the FREE slots; with every needed row complete the slot is FULL, leaves each member's
loading part for the tail of its ready queue, and raises its L. -/
def Obligations.PixelsWritten : Prop :=
  ∀ (s : State) (w : PixelWrite) (b : BandSlot), s.powered = true → s.inHand = .pixels w →
    s.slots[w.slot] = some b →
    let rows := b.rows.set w.row (b.rows.getD w.row [] ++ w.pixels)
    let complete := rows.countP fun row => row.length == b.width
    ∃ u : State, exec .pixelsWriteComplete s = .next u.settle ∧
      u = { s with
            slots :=
              s.slots.set w.slot
                (some { b with rows := rows, full := b.full || (complete == rows.length) })
            jobs := u.jobs
            inHand := .nothing
            replies := s.replies ++
              [{ kind := 0x80, unit := w.unit
                 payload := [0x30, 0x00, byte complete, byte s.freeSlots] }] } ∧
      ∀ j : Fin 8,
        (complete = rows.length → b.refs.getLsbD j.val = true →
          u.job j =
            { s.job j with
              loading := none
              ready := (s.job j).ready ++ [w.slot]
              loaded := (s.job j).loaded + 1 }) ∧
        (complete ≠ rows.length ∨ b.refs.getLsbD j.val = false → u.job j = s.job j)

/-! ### Lanes -/

/-- GRANT (R42, R102, R103): lane 0 when it is IDLE, else lane 1, goes to the head of the candidate list
when B + 16 bytes are free: the head of its ready queue becomes the pass, B + 16 bytes are reserved and
the cause set is emptied. A head that waits for room, or lanes both BUSY, grant nothing. -/
def Obligations.GrantToHead : Prop :=
  ∀ (s : State) (j : Fin 8) (others : List (Fin 8)), s.powered = true →
    s.candidates = j :: others →
    (s.freeSpace < (s.job j).budget + 16 ∨ s.lanes[0] ≠ none ∧ s.lanes[1] ≠ none →
      exec .grant s = .next s) ∧
    ∀ (l : Fin 2) (k : Fin 24) (ks : List (Fin 24)) (b : BandSlot),
      (l = 0 ∧ s.lanes[0] = none ∨ l = 1 ∧ s.lanes[0] ≠ none ∧ s.lanes[1] = none) →
      (s.job j).ready = k :: ks → s.slots[k] = some b → (s.job j).budget + 16 ≤ s.freeSpace →
      exec .grant s = .next (State.settle
        ({ s with
            candidates := others
            lanes := s.lanes.set l
              (some
                { job := j, slot := k, band := b.band, pass := (s.job j).nextPass, column := 0
                  startIndex := (s.job j).index, runningIndex := (s.job j).index, bitCount := 0
                  predictors := { y := 0, u := 0, v := 0 }, currentByte := [], stored := 0
                  clippedMark := false, overMark := false }) }.setJob j
          { s.job j with
            ready := ks
            causes := {}
            reservation := some { size := (s.job j).budget + 16, area := [] } }))

/-- Padding (R2, R3) and COLUMN_EVENT (R2, R27, R29, R45): sample (x, y) of the tile of column c that
begins at band row `top` is the slot's pixel at position 8c + x of row top + y; past the width it is the
last pixel of that row, and past the last needed row the row is that one, padded. The column's two tiles
are coded in order, each against the DC levels of the one before, their bits join the stream, and rate
control updates the running S and then tests the budget, both in passes 1 and 2 alone. A pass that does
not end goes on to the next column. -/
def Obligations.ColumnCoded : Prop :=
  (∀ (b : BandSlot) (column top x y : Nat), x < 8 → y < 8 →
    b.rows.length = b.rowsNeeded → (∀ row ∈ b.rows, row.length = b.width) →
    1 ≤ b.rowsNeeded → 1 ≤ b.width →
    let sample := (tilePixels b column top)[y]?.bind fun row => row[x]?
    let stored (r i : Nat) := b.rows[r]?.bind fun row => row[i]?
    sample.isSome = true ∧
    (top + y < b.rowsNeeded →
      (8 * column + x < b.width → sample = stored (top + y) (8 * column + x)) ∧
      (b.width ≤ 8 * column + x → sample = stored (top + y) (b.width - 1))) ∧
    (b.rowsNeeded ≤ top + y →
      (8 * column + x < b.width → sample = stored (b.rowsNeeded - 1) (8 * column + x)) ∧
      (b.width ≤ 8 * column + x → sample = stored (b.rowsNeeded - 1) (b.width - 1)))) ∧
  ∀ (s : State) (l : Fin 2) (p : PassState) (b : BandSlot) (q : Profile) (r : Reservation),
    Coded s l p b q r →
    let budget := (s.job p.job).budget
    let columns := (s.job p.job).columns
    let top := tileLevels q p.pass p.runningIndex (tilePixels b p.column 0)
    let bottom := tileLevels q p.pass p.runningIndex (tilePixels b p.column 8)
    let bits := tileBits p.predictors top ++ tileBits (predictorsAfter top) bottom
    let stream :=
      Stream.push budget
        { bitCount := p.bitCount, currentByte := p.currentByte, stored := p.stored, area := r.area }
        bits
    let total := p.bitCount + bits.length
    let coded : PassState :=
      { p with
        runningIndex :=
          if p.pass = .three then p.runningIndex
          else updateIndex p.runningIndex (columnError budget columns p.column total)
            (tolerance budget columns)
        bitCount := total
        predictors := { y := bottom.y.dc, u := bottom.u.dc, v := bottom.v.dc }
        currentByte := stream.currentByte
        stored := stream.stored
        clippedMark :=
          p.clippedMark || tileClips q p.pass p.runningIndex (tilePixels b p.column 0) ||
            tileClips q p.pass p.runningIndex (tilePixels b p.column 8)
        overMark := p.overMark || (p.pass != .three && decide (8 * budget < total)) }
    s.columnCoded p q b r = { pass := coded, area := stream.area } ∧
    (¬endsHere s { pass := coded, area := stream.area } →
      exec (.columnEvent l) s = .next (State.settle
        ({ s with lanes := s.lanes.set l (some { coded with column := p.column + 1 }) }.setJob p.job
          { s.job p.job with reservation := some { r with area := stream.area } })))

/-- The pass end and its decision (R42, R50, R105, R118): the last byte is padded, S is written after
passes 1 and 2, the conditions are raised, and the first of three cases applies. A cause whose halt is
enabled, or a stop reason HALT, withholds the band with its reservation, and the job is HALTED (R107,
R119). Otherwise a pass that fits is committed (R108, R109): the record joins the output queue, the lane
is IDLE, the job leaves the slot, E rises, and the job is PAUSED when a PAUSE was pending, DONE when E
then equals N, RUNNING otherwise. Otherwise the next pass begins afresh on the same lane (R52, R54,
R106), pass 2 at min(63, S + 8) and pass 3 at S, S being the ended pass's. -/
def Obligations.PassEndDecision : Prop :=
  ∀ (s : State) (l : Fin 2) (p : PassState) (b : BandSlot) (q : Profile) (r : Reservation)
    (c done : Coding), Coded s l p b q r → s.columnCoded p q b r = c → endsHere s c →
    c.finish (s.job p.job).budget = done → (s.job p.job).withheld = none →
    (s.job p.job).state.coding = true →
    let raised := passRaised (s.job p.job) done.pass { r with area := done.area }
    let halts := haltDue raised.causes raised.halts ∨ raised.state = .stopping .halt
    let st : JobState :=
      if raised.state = .stopping .pause then .paused
      else if raised.emitted + 1 = raised.bands then .done
      else .running
    let start :=
      if p.pass = Pass.one then min 63 (done.pass.runningIndex + 8) else done.pass.runningIndex
    (halts →
      exec (.columnEvent l) s = .next (State.settle
        ({ s with lanes := s.lanes.set l none }.setJob p.job
          { raised.moved .halted with
            withheld := some
              { slot := p.slot, band := p.band, pass := p.pass
                complete := decide (p.column + 1 = (s.job p.job).columns)
                fits := !done.pass.overMark, stored := done.pass.stored
                startIndex := p.startIndex, clippedMark := done.pass.clippedMark } }))) ∧
    (¬halts → done.pass.overMark = false →
      exec (.columnEvent l) s = .next (State.settle
        { s.setJob p.job (raised.banked st) with
          lanes := s.lanes.set l none
          records := s.records ++
            [bandRecord s p.job p.band p.pass.number done.pass.clippedMark (p.pass == .two) false
              false p.startIndex (done.area.take done.pass.stored)]
          commitCount := s.commitCount + 1
          slots := s.slots.set p.slot (slotWithout p.job s.slots[p.slot]) })) ∧
    (¬halts → done.pass.overMark = true → p.pass ≠ .three →
      exec (.columnEvent l) s = .next (State.settle
        ({ s with
            lanes := s.lanes.set l
              (some
                { job := p.job, slot := p.slot, band := p.band
                  pass := if p.pass = Pass.one then Pass.two else Pass.three
                  column := 0, startIndex := start, runningIndex := start, bitCount := 0
                  predictors := { y := 0, u := 0, v := 0 }, currentByte := [], stored := 0
                  clippedMark := false, overMark := false }) }.setJob p.job raised)))

/-! ### Pace timers -/

/-- PACED_EXPIRY, PAGE_EXPIRY and PRESCALED_TICK of a running timer (R116, R120, R132, R134, R135). That
an expiry is the tick that finds the count at 1 is R132's; that it is a command is log 19's choice. -/
def Obligations.TicksAndExpiries : Prop :=
  ∀ (s : State) (j : Fin 8), s.powered = true → (s.job j).timer.running = true →
    ((s.job j).timer.mode = .paced → (s.job j).timer.count = 1 →
      exec (.pacedExpiry j) s = .next (State.settle
        (s.setJob j (pacedExpired (s.job j) (s.passInFlight j))))) ∧
    ((s.job j).timer.mode = .page → (s.job j).timer.count = 1 →
      exec (.pageExpiry j) s = .next (State.settle
        (s.setJob j (pageExpired (s.job j) (s.passInFlight j))))) ∧
    (2 ≤ (s.job j).timer.count →
      exec (.prescaledTick j) s = .next (State.settle
        (s.setJob j { s.job j with timer := (s.job j).timer.counted })))

/-! ### Arithmetic of the coded band -/

/-- The lifting pair (R5): d = a - b and s = b + floor(d / 2), which is floor((a + b) / 2), lies between
a and b, and rounds toward minus infinity; d lies in -(M - m) to M - m when a and b lie in m to M. -/
def Obligations.LiftingPair : Prop :=
  ∀ a b : Int,
    detail a b = a - b ∧ smooth a b = b + ⌊((a - b : Int) : ℚ) / 2⌋ ∧
    smooth a b = ⌊((a + b : Int) : ℚ) / 2⌋ ∧ min a b ≤ smooth a b ∧ smooth a b ≤ max a b ∧
    ∀ m M : Int, m ≤ a → a ≤ M → m ≤ b → b ≤ M → -(M - m) ≤ detail a b ∧ detail a b ≤ M - m

/-- Steps and rounding (R12 to R14, R16 to R20): the AC step and its clamps, one step a scale; the three
rounding modes, when each rounds up, and their order; a level's magnitude, which is the rounded quotient
clamped to 255, its sign, and that the clamp acts exactly when that quotient is above 255; DC in NEAREST
at the DC step, never clamped; no AC level in pass 3. A component clips in passes 1 and 2 exactly when
the clamp acts on one of its AC coefficients at that coefficient's step, and never in pass 3; a tile
clips when one of its components does. Each component of a tile takes the settings of the tile's zone. -/
def Obligations.StepsAndRounding : Prop :=
  (∀ base weight index : Nat, 1 ≤ base → base ≤ 255 → 8 ≤ weight → weight ≤ 64 → index ≤ 63 →
    (1 ≤ acStep base weight index ∧ acStep base weight index ≤ 255) ∧
    (base * weight * (index + 16) ≤ 65407 →
      acStep base weight index = (base * weight * (index + 16) + 128) / 256) ∧
    (65407 < base * weight * (index + 16) → acStep base weight index = 255)) ∧
  (∀ (base : BaseSteps) (weight index i : Nat), i < 63 →
    (acSteps base weight index)[i]? = some (acStep
      (if i + 1 ≤ 3 then base.s3 else if i + 1 ≤ 15 then base.s2 else base.s1) weight index)) ∧
  (∀ c t : Nat, 1 ≤ t →
    Rounding.quotient .nearest c t = c / t + (if t ≤ 2 * (c % t) then 1 else 0) ∧
    Rounding.quotient .soft c t = c / t + (if 3 * t ≤ 4 * (c % t) then 1 else 0) ∧
    Rounding.quotient .truncate c t = c / t ∧
    Rounding.quotient .soft c t ≤ Rounding.quotient .nearest c t ∧
    Rounding.quotient .truncate c t ≤ Rounding.quotient .soft c t) ∧
  (∀ (m : Rounding) (t : Nat) (c : Int),
    levelOf m t (-c) = -levelOf m t c ∧ (0 ≤ c → 0 ≤ levelOf m t c) ∧
    (clips m t c = true ↔ 255 < m.quotient c.natAbs t) ∧
    (clips m t c = false → (levelOf m t c).natAbs = m.quotient c.natAbs t) ∧
    (clips m t c = true → (levelOf m t c).natAbs = 255)) ∧
  (∀ (t : Nat) (c : Int), 1 ≤ t → c.natAbs ≤ 255 → clips .nearest t c = false) ∧
  (∀ (pass : Pass) (base : BaseSteps) (z : ZoneSettings) (running : Nat) (coeffs : List Int),
    let steps := acSteps base z.weight (if pass = .one then min running z.ceiling else running)
    (componentLevels pass base z running coeffs).dc = levelOf .nearest base.dc (coeffs.headD 0) ∧
    (componentLevels .three base z running coeffs).ac = List.replicate 63 0 ∧
    componentClips .three base z running coeffs = false ∧
    (pass ≠ .three →
      (coeffs.length = 64 → (componentLevels pass base z running coeffs).ac.length = 63) ∧
      (∀ (i : Nat) (c : Int) (t : Nat), coeffs.tail[i]? = some c → steps[i]? = some t →
        (componentLevels pass base z running coeffs).ac[i]? = some (levelOf z.rounding t c)) ∧
      (componentClips pass base z running coeffs = true ↔
        ∃ (i : Nat) (c : Int) (t : Nat), coeffs.tail[i]? = some c ∧ steps[i]? = some t ∧
          clips z.rounding t c = true))) ∧
  ∀ (p : Profile) (pass : Pass) (running : Nat) (tile : List (List Rgb)),
    let zone := zoneOf p (tileStatistics tile)
    tileLevels p pass running tile =
      { zone
        y := componentLevels pass p.y (p.zone zone) running (coefficients Rgb.luma tile)
        u := componentLevels pass p.c (p.zone zone) running (coefficients Rgb.chromaU tile)
        v := componentLevels pass p.c (p.zone zone) running (coefficients Rgb.chromaV tile) } ∧
    (tileClips p pass running tile = true ↔
      componentClips pass p.y (p.zone zone) running (coefficients Rgb.luma tile) = true ∨
      componentClips pass p.c (p.zone zone) running (coefficients Rgb.chromaU tile) = true ∨
      componentClips pass p.c (p.zone zone) running (coefficients Rgb.chromaV tile) = true)

/-- The coefficients, statistics and tone zone of a tile. Colour (R4): Y, U and V of a pixel. One level of
the transform (R6): smooth and detail of each row's pairs, then of each column's, into the quadrants LL,
HL, LH and HH; three levels, each on the LL quadrant of the one before, the rest kept (R7); the scan
order (R9); the ranges by component and quadrant (R8). The statistics are the three DC coefficients, and
the largest less the smallest Y sample (R10). The first test of the table that holds decides the zone;
under committed thresholds a tile is never bright and shadow together (R11). -/
def Obligations.ToneZones : Prop :=
  (∀ p : Rgb,
    p.luma = ⌊((p.r.toNat + 2 * p.g.toNat + p.b.toNat : Nat) : ℚ) / 4⌋ ∧
    p.chromaU = p.b.toNat - p.g.toNat ∧ p.chromaV = p.r.toNat - p.g.toNat) ∧
  (∀ (h : Nat) (m : List (List Int)), IsBlock (2 * h) m →
    IsBlock (2 * h) (liftBlock (2 * h) m) ∧
    ∀ i k : Nat, i < h → k < h →
      let low (r : Nat) := smooth (cell m r (2 * k)) (cell m r (2 * k + 1))
      let high (r : Nat) := detail (cell m r (2 * k)) (cell m r (2 * k + 1))
      cell (liftBlock (2 * h) m) i k = smooth (low (2 * i)) (low (2 * i + 1)) ∧
      cell (liftBlock (2 * h) m) i (h + k) = smooth (high (2 * i)) (high (2 * i + 1)) ∧
      cell (liftBlock (2 * h) m) (h + i) k = detail (low (2 * i)) (low (2 * i + 1)) ∧
      cell (liftBlock (2 * h) m) (h + i) (h + k) = detail (high (2 * i)) (high (2 * i + 1))) ∧
  (∀ m : List (List Int), IsBlock 8 m →
    let one := liftBlock 8 m
    let two := liftBlock 4 (corner 4 one)
    let three := liftBlock 2 (corner 2 two)
    IsBlock 8 (transformTile m) ∧
    ∀ i k : Nat, i < 8 → k < 8 →
      cell (transformTile m) i k =
        if i < 2 ∧ k < 2 then cell three i k
        else if i < 4 ∧ k < 4 then cell two i k
        else cell one i k) ∧
  (∀ m : List (List Int), IsBlock 8 m →
    (scan m).length = 64 ∧
    ((scan m)[0]? = some (cell m 0 0) ∧ (scan m)[1]? = some (cell m 0 1) ∧
      (scan m)[2]? = some (cell m 1 0) ∧ (scan m)[3]? = some (cell m 1 1)) ∧
    (∀ i k : Nat, i < 2 → k < 2 →
      (scan m)[4 + 2 * i + k]? = some (cell m i (2 + k)) ∧
      (scan m)[8 + 2 * i + k]? = some (cell m (2 + i) k) ∧
      (scan m)[12 + 2 * i + k]? = some (cell m (2 + i) (2 + k))) ∧
    ∀ i k : Nat, i < 4 → k < 4 →
      (scan m)[16 + 4 * i + k]? = some (cell m i (4 + k)) ∧
      (scan m)[32 + 4 * i + k]? = some (cell m (4 + i) k) ∧
      (scan m)[48 + 4 * i + k]? = some (cell m (4 + i) (4 + k))) ∧
  (∀ tile : List (List Rgb), IsBlock 8 tile →
    (∀ component : Rgb → Int,
      coefficients component tile = scan (transformTile (tile.map fun row => row.map component))) ∧
    (∀ (n : Nat) (c : Int),
      ((coefficients Rgb.luma tile)[n]? = some c →
        (n = 0 → 0 ≤ c ∧ c ≤ 255) ∧ (c.natAbs ≤ if isDiagonal n then 510 else 255)) ∧
      ((coefficients Rgb.chromaU tile)[n]? = some c ∨ (coefficients Rgb.chromaV tile)[n]? = some c →
        c.natAbs ≤ if n = 0 then 255 else if isDiagonal n then 1020 else 510)) ∧
    (coefficients Rgb.luma tile)[0]? = some (tileStatistics tile).dcY ∧
    (coefficients Rgb.chromaU tile)[0]? = some (tileStatistics tile).dcU ∧
    (coefficients Rgb.chromaV tile)[0]? = some (tileStatistics tile).dcV ∧
    ∃ low high : Rgb, low ∈ tile.flatten ∧ high ∈ tile.flatten ∧
      (∀ p ∈ tile.flatten, low.luma ≤ p.luma ∧ p.luma ≤ high.luma) ∧
      (tileStatistics tile).span = high.luma - low.luma) ∧
  ∀ (p : Profile) (t : TileStatistics),
    ((p.tHi : Int) ≤ t.dcY → (p.tSpan : Int) ≤ t.span → zoneOf p t = .brightDetail) ∧
    ((p.tHi : Int) ≤ t.dcY → t.span < (p.tSpan : Int) → zoneOf p t = .brightFlat) ∧
    (t.dcY < (p.tHi : Int) → t.dcY ≤ (p.tLo : Int) → zoneOf p t = .shadow) ∧
    (t.dcY < (p.tHi : Int) → (p.tLo : Int) < t.dcY →
      (p.uLo ≤ t.dcU ∧ t.dcU ≤ p.uHi ∧ p.vLo ≤ t.dcV ∧ t.dcV ≤ p.vHi → zoneOf p t = .skin) ∧
      (t.dcU < p.uLo ∨ p.uHi < t.dcU ∨ t.dcV < p.vLo ∨ p.vHi < t.dcV → zoneOf p t = .mid)) ∧
    (p.Consistent → t.dcY ≤ (p.tLo : Int) → zoneOf p t = .shadow)

/-- The target G, the tolerance H and the error (R46); the per-column update (R47); and that it cannot
lower S early (R48): after columns 0 and 1 S is not
lowered, so for K up to 2 never; for K = 1, S rises by 1 exactly in the case that ends the pass, and by
2 above 24B, which a column of at most 6,620 bits passes only under budgets of 256 to 275. Column 2
can lower it. -/
def Obligations.RateControl : Prop :=
  (∀ budget columns column bits : Nat, 1 ≤ columns → column < columns →
    (target budget columns column : Int) = ⌊(8 * budget * (column + 1) : ℚ) / columns⌋ ∧
    (tolerance budget columns : Int) = ⌈(8 * budget : ℚ) / columns⌉ ∧
    columnError budget columns column bits = bits - target budget columns column ∧
    target budget columns (columns - 1) = 8 * budget ∧
    (∀ later, column ≤ later → target budget columns column ≤ target budget columns later) ∧
    (budgetFloor columns ≤ budget → 122 * columns ≤ 8 * budget ∧ 122 ≤ tolerance budget columns) ∧
    (budget ≤ 196608 → columns ≤ 1024 → 8 * budget * (column + 1) ≤ 1610612736)) ∧
  (∀ (index tol : Nat) (e : Int), index ≤ 63 →
    (2 * (tol : Int) < e → updateIndex index e tol = min 63 (index + 2)) ∧
    (0 < e → e ≤ 2 * (tol : Int) → updateIndex index e tol = min 63 (index + 1)) ∧
    (-(2 * (tol : Int)) ≤ e → e ≤ 0 → updateIndex index e tol = index) ∧
    (e < -(2 * (tol : Int)) → (updateIndex index e tol : Int) = max 0 ((index : Int) - 1)) ∧
    updateIndex index e tol ≤ 63) ∧
  (∀ budget columns column bits index : Nat, 1 ≤ columns → column < columns → index ≤ 63 →
    column ≤ 1 ∨ columns ≤ 2 →
    -(2 * (tolerance budget columns : Int)) ≤ columnError budget columns column bits ∧
      index ≤ updateIndex index (columnError budget columns column bits)
        (tolerance budget columns)) ∧
  ∀ budget bits index : Nat, 256 ≤ budget → index ≤ 63 →
    target budget 1 0 = 8 * budget ∧ tolerance budget 1 = 8 * budget ∧
    updateIndex index (columnError budget 1 0 bits) (tolerance budget 1) =
      (if 24 * budget < bits then min 63 (index + 2)
      else if 8 * budget < bits then min 63 (index + 1)
      else index) ∧
    (endsEarly .one budget bits = true ↔ 8 * budget < bits) ∧
    (bits ≤ 6620 → 24 * budget < bits → budget ≤ 275) ∧
    updateIndex 36 (columnError 400 8 2 300) (tolerance 400 8) = 35

/-- Sizes (R35, R36, R37): with levels and predictors in the ranges of R18 and R19 a tile has at most
3,310 bits, and at most 61 when it has no AC level, so a pass 3 of K columns has at most 122K bits,
which the budget floor holds. -/
def Obligations.TileSizes : Prop :=
  (∀ (p : Predictors) (t : TileLevels),
    (0 ≤ p.y ∧ p.y ≤ 255 ∧ 0 ≤ t.y.dc ∧ t.y.dc ≤ 255) →
    (-255 ≤ p.u ∧ p.u ≤ 255 ∧ -255 ≤ t.u.dc ∧ t.u.dc ≤ 255) →
    (-255 ≤ p.v ∧ p.v ≤ 255 ∧ -255 ≤ t.v.dc ∧ t.v.dc ≤ 255) →
    (∀ c ∈ [t.y, t.u, t.v], c.ac.length = 63 ∧ ∀ x ∈ c.ac, x.natAbs ≤ 255) →
    (tileBits p t).length ≤ 3310 ∧
    ((∀ c ∈ [t.y, t.u, t.v], c.ac = List.replicate 63 0) → (tileBits p t).length ≤ 61)) ∧
  ∀ columns : Nat,
    budgetFloor columns = max 256 ⌈(122 * columns : ℚ) / 8⌉.toNat ∧
    (bytesFor (122 * columns) ≤ budgetFloor columns) ∧
    ∀ budget, budgetFloor columns ≤ clampBudget columns budget ∧
      (columns ≤ 1024 → clampBudget columns budget ≤ 196608)

/-- Reading a payload back (R23 to R27, R38): the parse of the bits of any number of tiles, in coding
order from any predictors, gives every level of every tile, and leaves what follows them. -/
def Obligations.PayloadReadsBack : Prop :=
  ∀ (ts : List TileLevels) (p : Predictors) (after : List Bool),
    (∀ t ∈ ts, t.y.ac.length = 63 ∧ t.u.ac.length = 63 ∧ t.v.ac.length = 63) →
    readTiles ts.length p (tilesBits p ts ++ after) = some (ts, after)

/-- The bytes of a pass (R29, R31 to R34): whatever an earlier pass left in the payload area, a pass that
writes these bits stores the smaller of ceil(T / 8) and B bytes, and those are the bits packed most
significant first, the last byte filled with zeros. -/
def Obligations.StreamPacking : Prop :=
  ∀ (budget : Nat) (old : List Byte) (bits : List Bool), old.length ≤ budget →
    let pushed :=
      Stream.push budget { bitCount := 0, currentByte := [], stored := 0, area := old } bits
    pushed.bitCount = bits.length ∧ pushed.stored = min (bits.length / 8) budget ∧
    pushed.currentByte = bits.drop (8 * (bits.length / 8)) ∧
    (pushed.finish budget).stored = min ((bits.length + 7) / 8) budget ∧
    (pushed.finish budget).area.take (pushed.finish budget).stored =
      packed bits (min ((bits.length + 7) / 8) budget) ∧
    (pushed.finish budget).area.length ≤ budget

/-! ### Encodings -/

/-- Characters and the envelope (R154, R157, R164, R169): a character sent with a byte, and sampled with
the bits it was sent with, is received as a good one with that byte; the bytes of a frame are read back
as that frame, and bytes are read as a frame only when they are its bytes. -/
def Obligations.FramesReadBack : Prop :=
  (∀ (b : Byte) (samples : CharacterSamples),
    (samples.toList.map BitSamples.majority) = characterBits b →
    characterOutcome samples = .good b) ∧
  (∀ f : Frame, f.payload.length ≤ 4096 → frameOfBytes f.bytes = some f) ∧
  ∀ (bytes : List Byte) (f : Frame), frameOfBytes bytes = some f →
    f.bytes = bytes ∧ f.payload.length ≤ 4096

/-- Little-endian fields and the payload layouts of JOB OPEN, RETIME, RESOLVE and PIXELS (R169): each
field is read from its bytes. -/
def Obligations.PayloadLayouts : Prop :=
  (∀ width n : Nat, (leBytes width n).length = width ∧ leNat (leBytes width n) = n % 256 ^ width) ∧
  (∀ (profile width height budget start priority tag mask level : Nat) (halts : Conditions)
      (kinds : NoticeKinds) (timer : Option TimerRequest),
    profile < 256 → width < 65536 → height < 65536 → budget < 4294967296 → start < 256 →
    priority < 256 → tag < 65536 → mask < 65536 → level < 256 →
    (∀ t ∈ timer, t.mode < 256 ∧ t.reload < 65536 ∧ t.selector < 256) →
    openRequestOf
      ([byte profile] ++ leBytes 2 width ++ leBytes 2 height ++ leBytes 4 budget ++
        [byte start, byte priority] ++ leBytes 2 tag ++ leBytes 2 mask ++
        [halts.toByte, byte level, kinds.toByte] ++
        timer.elim [] fun t => [byte t.mode] ++ leBytes 2 t.reload ++ [byte t.selector]) =
      { profile, width, height, budget, startIndex := start, priority, tag, mask, halts,
        noticeLevel := level, noticeKinds := kinds, timer }) ∧
  (∀ mode reload selector : Nat, mode < 256 → reload < 65536 → selector < 256 →
    retimeRequestOf ([byte mode] ++ leBytes 2 reload ++ [byte selector]) =
      { mode, reload, selector }) ∧
  (∀ action pass index budget : Nat, action < 256 → pass < 256 → index < 256 →
    budget < 4294967296 →
    resolveRequestOf ([byte action, byte pass, byte index] ++ leBytes 4 budget) =
      { action, pass, index, budget }) ∧
  ∀ (tag band row x count : Nat) (data : List Byte), tag < 65536 → band < 65536 → row < 256 →
    x < 65536 → count < 65536 →
    pixelsRequestOf
      (leBytes 2 tag ++ leBytes 2 band ++ [byte row] ++ leBytes 2 x ++ leBytes 2 count ++ data) =
      { tag, band, row, x, count, data }

/-! ### Invariants every command keeps, and the idle step with them -/

/-- Every step keeps the link's counts in their ranges: the error counter never exceeds the threshold. -/
def Obligations.LinkCountsKept : Prop :=
  ∀ s t : State, LinkInv s → step s = .next t → LinkInv t

/-- Every step keeps the candidate list and the lanes' law. -/
def Obligations.CandidatesAndLanesKept : Prop :=
  ∀ s t : State, CandidateInv s → LaneInv s → step s = .next t → CandidateInv t ∧ LaneInv t

/-- Every step keeps the output queue's law: committed record bytes plus reserved bytes never exceed
1,048,576, and a job holds at most one reservation, of its budget plus 16, only while it has a pass in
flight or a withheld band. -/
def Obligations.OutputQueueKept : Prop :=
  ∀ s t : State, CandidateInv s → LaneInv s → OutputInv s → step s = .next t → OutputInv t

/-- Every step keeps every index in 0 to 63 and every budget in F(K) to 196,608. -/
def Obligations.IndicesAndBudgetsKept : Prop :=
  ∀ s t : State, CandidateInv s → LaneInv s → ProfileInv s → IndexInv s → step s = .next t →
    IndexInv t

/-- Every step keeps the bit streams' law: what a pass has stored, and that a withheld band that fits ran
all its columns. -/
def Obligations.BitStreamsKept : Prop :=
  ∀ s t : State, CandidateInv s → LaneInv s → OutputInv s → IndexInv s → StreamInv s →
    step s = .next t → StreamInv t

/-- Every step keeps the reference set law, and that a FREE context holds its FREE values. -/
def Obligations.ReferenceSetsKept : Prop :=
  ∀ s t : State, CandidateInv s → LaneInv s → HoldInv s → step s = .next t → HoldInv t

/-- Every step keeps what a band slot holds: a FULL slot has every needed row complete. -/
def Obligations.SlotContentsKept : Prop :=
  ∀ s t : State, SlotInv s → step s = .next t → SlotInv t

/-- Every step keeps the law of the cursors L and E, and of the bands between them. -/
def Obligations.CursorsKept : Prop :=
  ∀ s t : State, CandidateInv s → LaneInv s → HoldInv s → CursorInv s → step s = .next t →
    CursorInv t

/-- Every step keeps the pace timers' laws, the due count D at most N among them. -/
def Obligations.TimersKept : Prop :=
  ∀ s t : State, TimerInv s → step s = .next t → TimerInv t

/-- Every step keeps the profile table's laws: a slot in use is READY. -/
def Obligations.ProfilesKept : Prop :=
  ∀ s t : State, LaneInv s → ProfileInv s → step s = .next t → ProfileInv t

/-- What a job keeps while it is open (R1, R62, R141, R143): from every state, a step that leaves a
context out of FREE that was out of FREE before keeps its geometry, priority, tag, mask and profile
slot; and a profile slot in use before and after a step is unchanged in its settings. -/
def Obligations.FixedWhileOpen : Prop :=
  ∀ s t : State, step s = .next t →
    (∀ j, (s.job j).state ≠ .free → (t.job j).state ≠ .free →
      (t.job j).profile = (s.job j).profile ∧ (t.job j).width = (s.job j).width ∧
      (t.job j).height = (s.job j).height ∧ (t.job j).columns = (s.job j).columns ∧
      (t.job j).bands = (s.job j).bands ∧ (t.job j).priority = (s.job j).priority ∧
      (t.job j).tag = (s.job j).tag ∧ (t.job j).mask = (s.job j).mask) ∧
    (LaneInv s → ProfileInv s → ∀ k, 0 < s.inUse k → 0 < t.inUse k →
      (t.profiles[k]).content = (s.profiles[k]).content)

end
end

