-- ==== Sys2Proof/Laws/State.lean ====
section
/-! SUPPORT. One lemma per field for each named update of the state, of a context and of a bit
stream, so that no later proof unfolds a record update. -/

namespace Sys2Proof.Machine
/- Proofs one after another: many at once run out of threads. -/
set_option Elab.async false

/-! ### setJob -/

@[simp] theorem setJob_powered (s : State) (j : Fin 8) (v : Job) : (s.setJob j v).powered = s.powered := rfl
@[simp] theorem setJob_pending (s : State) (j : Fin 8) (v : Job) : (s.setJob j v).pending = s.pending := rfl
@[simp] theorem setJob_slots (s : State) (j : Fin 8) (v : Job) : (s.setJob j v).slots = s.slots := rfl
@[simp] theorem setJob_lanes (s : State) (j : Fin 8) (v : Job) : (s.setJob j v).lanes = s.lanes := rfl
@[simp] theorem setJob_candidates (s : State) (j : Fin 8) (v : Job) : (s.setJob j v).candidates = s.candidates := rfl
@[simp] theorem setJob_records (s : State) (j : Fin 8) (v : Job) : (s.setJob j v).records = s.records := rfl
@[simp] theorem setJob_commitCount (s : State) (j : Fin 8) (v : Job) : (s.setJob j v).commitCount = s.commitCount := rfl
@[simp] theorem setJob_profiles (s : State) (j : Fin 8) (v : Job) : (s.setJob j v).profiles = s.profiles := rfl
@[simp] theorem setJob_store (s : State) (j : Fin 8) (v : Job) : (s.setJob j v).store = s.store := rfl
@[simp] theorem setJob_saving (s : State) (j : Fin 8) (v : Job) : (s.setJob j v).saving = s.saving := rfl
@[simp] theorem setJob_lastSave (s : State) (j : Fin 8) (v : Job) : (s.setJob j v).lastSave = s.lastSave := rfl
@[simp] theorem setJob_startup (s : State) (j : Fin 8) (v : Job) : (s.setJob j v).startup = s.startup := rfl
@[simp] theorem setJob_failedSlots (s : State) (j : Fin 8) (v : Job) : (s.setJob j v).failedSlots = s.failedSlots := rfl
@[simp] theorem setJob_cutOffSlot (s : State) (j : Fin 8) (v : Job) : (s.setJob j v).cutOffSlot = s.cutOffSlot := rfl
@[simp] theorem setJob_receiver (s : State) (j : Fin 8) (v : Job) : (s.setJob j v).receiver = s.receiver := rfl
@[simp] theorem setJob_reception (s : State) (j : Fin 8) (v : Job) : (s.setJob j v).reception = s.reception := rfl
@[simp] theorem setJob_inbound (s : State) (j : Fin 8) (v : Job) : (s.setJob j v).inbound = s.inbound := rfl
@[simp] theorem setJob_replies (s : State) (j : Fin 8) (v : Job) : (s.setJob j v).replies = s.replies := rfl
@[simp] theorem setJob_inHand (s : State) (j : Fin 8) (v : Job) : (s.setJob j v).inHand = s.inHand := rfl
@[simp] theorem setJob_errorCounter (s : State) (j : Fin 8) (v : Job) : (s.setJob j v).errorCounter = s.errorCounter := rfl
@[simp] theorem setJob_threshold (s : State) (j : Fin 8) (v : Job) : (s.setJob j v).threshold = s.threshold := rfl
@[simp] theorem setJob_totals (s : State) (j : Fin 8) (v : Job) : (s.setJob j v).totals = s.totals := rfl
@[simp] theorem setJob_quiet (s : State) (j : Fin 8) (v : Job) : (s.setJob j v).quiet = s.quiet := rfl
@[simp] theorem setJob_straps (s : State) (j : Fin 8) (v : Job) : (s.setJob j v).straps = s.straps := rfl
@[simp] theorem setJob_marks (s : State) (j : Fin 8) (v : Job) : (s.setJob j v).marks = s.marks := rfl
@[simp] theorem setJob_resetCause (s : State) (j : Fin 8) (v : Job) : (s.setJob j v).resetCause = s.resetCause := rfl
@[simp] theorem setJob_transmitter (s : State) (j : Fin 8) (v : Job) : (s.setJob j v).transmitter = s.transmitter := rfl

/-! ### modifyJob -/

@[simp] theorem modifyJob_powered (s : State) (j : Fin 8) (f : Job → Job) : (s.modifyJob j f).powered = s.powered := rfl
@[simp] theorem modifyJob_pending (s : State) (j : Fin 8) (f : Job → Job) : (s.modifyJob j f).pending = s.pending := rfl
@[simp] theorem modifyJob_slots (s : State) (j : Fin 8) (f : Job → Job) : (s.modifyJob j f).slots = s.slots := rfl
@[simp] theorem modifyJob_lanes (s : State) (j : Fin 8) (f : Job → Job) : (s.modifyJob j f).lanes = s.lanes := rfl
@[simp] theorem modifyJob_candidates (s : State) (j : Fin 8) (f : Job → Job) : (s.modifyJob j f).candidates = s.candidates := rfl
@[simp] theorem modifyJob_records (s : State) (j : Fin 8) (f : Job → Job) : (s.modifyJob j f).records = s.records := rfl
@[simp] theorem modifyJob_commitCount (s : State) (j : Fin 8) (f : Job → Job) : (s.modifyJob j f).commitCount = s.commitCount := rfl
@[simp] theorem modifyJob_profiles (s : State) (j : Fin 8) (f : Job → Job) : (s.modifyJob j f).profiles = s.profiles := rfl
@[simp] theorem modifyJob_store (s : State) (j : Fin 8) (f : Job → Job) : (s.modifyJob j f).store = s.store := rfl
@[simp] theorem modifyJob_saving (s : State) (j : Fin 8) (f : Job → Job) : (s.modifyJob j f).saving = s.saving := rfl
@[simp] theorem modifyJob_lastSave (s : State) (j : Fin 8) (f : Job → Job) : (s.modifyJob j f).lastSave = s.lastSave := rfl
@[simp] theorem modifyJob_startup (s : State) (j : Fin 8) (f : Job → Job) : (s.modifyJob j f).startup = s.startup := rfl
@[simp] theorem modifyJob_failedSlots (s : State) (j : Fin 8) (f : Job → Job) : (s.modifyJob j f).failedSlots = s.failedSlots := rfl
@[simp] theorem modifyJob_cutOffSlot (s : State) (j : Fin 8) (f : Job → Job) : (s.modifyJob j f).cutOffSlot = s.cutOffSlot := rfl
@[simp] theorem modifyJob_receiver (s : State) (j : Fin 8) (f : Job → Job) : (s.modifyJob j f).receiver = s.receiver := rfl
@[simp] theorem modifyJob_reception (s : State) (j : Fin 8) (f : Job → Job) : (s.modifyJob j f).reception = s.reception := rfl
@[simp] theorem modifyJob_inbound (s : State) (j : Fin 8) (f : Job → Job) : (s.modifyJob j f).inbound = s.inbound := rfl
@[simp] theorem modifyJob_replies (s : State) (j : Fin 8) (f : Job → Job) : (s.modifyJob j f).replies = s.replies := rfl
@[simp] theorem modifyJob_inHand (s : State) (j : Fin 8) (f : Job → Job) : (s.modifyJob j f).inHand = s.inHand := rfl
@[simp] theorem modifyJob_errorCounter (s : State) (j : Fin 8) (f : Job → Job) : (s.modifyJob j f).errorCounter = s.errorCounter := rfl
@[simp] theorem modifyJob_threshold (s : State) (j : Fin 8) (f : Job → Job) : (s.modifyJob j f).threshold = s.threshold := rfl
@[simp] theorem modifyJob_totals (s : State) (j : Fin 8) (f : Job → Job) : (s.modifyJob j f).totals = s.totals := rfl
@[simp] theorem modifyJob_quiet (s : State) (j : Fin 8) (f : Job → Job) : (s.modifyJob j f).quiet = s.quiet := rfl
@[simp] theorem modifyJob_straps (s : State) (j : Fin 8) (f : Job → Job) : (s.modifyJob j f).straps = s.straps := rfl
@[simp] theorem modifyJob_marks (s : State) (j : Fin 8) (f : Job → Job) : (s.modifyJob j f).marks = s.marks := rfl
@[simp] theorem modifyJob_resetCause (s : State) (j : Fin 8) (f : Job → Job) : (s.modifyJob j f).resetCause = s.resetCause := rfl
@[simp] theorem modifyJob_transmitter (s : State) (j : Fin 8) (f : Job → Job) : (s.modifyJob j f).transmitter = s.transmitter := rfl

/-! ### mapJobs -/

@[simp] theorem mapJobs_powered (s : State) (f : Fin 8 → Job → Job) : (s.mapJobs f).powered = s.powered := by simp only [State.mapJobs]
@[simp] theorem mapJobs_pending (s : State) (f : Fin 8 → Job → Job) : (s.mapJobs f).pending = s.pending := by simp only [State.mapJobs]
@[simp] theorem mapJobs_slots (s : State) (f : Fin 8 → Job → Job) : (s.mapJobs f).slots = s.slots := by simp only [State.mapJobs]
@[simp] theorem mapJobs_lanes (s : State) (f : Fin 8 → Job → Job) : (s.mapJobs f).lanes = s.lanes := by simp only [State.mapJobs]
@[simp] theorem mapJobs_candidates (s : State) (f : Fin 8 → Job → Job) : (s.mapJobs f).candidates = s.candidates := by simp only [State.mapJobs]
@[simp] theorem mapJobs_records (s : State) (f : Fin 8 → Job → Job) : (s.mapJobs f).records = s.records := by simp only [State.mapJobs]
@[simp] theorem mapJobs_commitCount (s : State) (f : Fin 8 → Job → Job) : (s.mapJobs f).commitCount = s.commitCount := by simp only [State.mapJobs]
@[simp] theorem mapJobs_profiles (s : State) (f : Fin 8 → Job → Job) : (s.mapJobs f).profiles = s.profiles := by simp only [State.mapJobs]
@[simp] theorem mapJobs_store (s : State) (f : Fin 8 → Job → Job) : (s.mapJobs f).store = s.store := by simp only [State.mapJobs]
@[simp] theorem mapJobs_saving (s : State) (f : Fin 8 → Job → Job) : (s.mapJobs f).saving = s.saving := by simp only [State.mapJobs]
@[simp] theorem mapJobs_lastSave (s : State) (f : Fin 8 → Job → Job) : (s.mapJobs f).lastSave = s.lastSave := by simp only [State.mapJobs]
@[simp] theorem mapJobs_startup (s : State) (f : Fin 8 → Job → Job) : (s.mapJobs f).startup = s.startup := by simp only [State.mapJobs]
@[simp] theorem mapJobs_failedSlots (s : State) (f : Fin 8 → Job → Job) : (s.mapJobs f).failedSlots = s.failedSlots := by simp only [State.mapJobs]
@[simp] theorem mapJobs_cutOffSlot (s : State) (f : Fin 8 → Job → Job) : (s.mapJobs f).cutOffSlot = s.cutOffSlot := by simp only [State.mapJobs]
@[simp] theorem mapJobs_receiver (s : State) (f : Fin 8 → Job → Job) : (s.mapJobs f).receiver = s.receiver := by simp only [State.mapJobs]
@[simp] theorem mapJobs_reception (s : State) (f : Fin 8 → Job → Job) : (s.mapJobs f).reception = s.reception := by simp only [State.mapJobs]
@[simp] theorem mapJobs_inbound (s : State) (f : Fin 8 → Job → Job) : (s.mapJobs f).inbound = s.inbound := by simp only [State.mapJobs]
@[simp] theorem mapJobs_replies (s : State) (f : Fin 8 → Job → Job) : (s.mapJobs f).replies = s.replies := by simp only [State.mapJobs]
@[simp] theorem mapJobs_inHand (s : State) (f : Fin 8 → Job → Job) : (s.mapJobs f).inHand = s.inHand := by simp only [State.mapJobs]
@[simp] theorem mapJobs_errorCounter (s : State) (f : Fin 8 → Job → Job) : (s.mapJobs f).errorCounter = s.errorCounter := by simp only [State.mapJobs]
@[simp] theorem mapJobs_threshold (s : State) (f : Fin 8 → Job → Job) : (s.mapJobs f).threshold = s.threshold := by simp only [State.mapJobs]
@[simp] theorem mapJobs_totals (s : State) (f : Fin 8 → Job → Job) : (s.mapJobs f).totals = s.totals := by simp only [State.mapJobs]
@[simp] theorem mapJobs_quiet (s : State) (f : Fin 8 → Job → Job) : (s.mapJobs f).quiet = s.quiet := by simp only [State.mapJobs]
@[simp] theorem mapJobs_straps (s : State) (f : Fin 8 → Job → Job) : (s.mapJobs f).straps = s.straps := by simp only [State.mapJobs]
@[simp] theorem mapJobs_marks (s : State) (f : Fin 8 → Job → Job) : (s.mapJobs f).marks = s.marks := by simp only [State.mapJobs]
@[simp] theorem mapJobs_resetCause (s : State) (f : Fin 8 → Job → Job) : (s.mapJobs f).resetCause = s.resetCause := by simp only [State.mapJobs]
@[simp] theorem mapJobs_transmitter (s : State) (f : Fin 8 → Job → Job) : (s.mapJobs f).transmitter = s.transmitter := by simp only [State.mapJobs]

/-! ### setSlot -/

@[simp] theorem setSlot_powered (s : State) (k : Fin 24) (v : Option BandSlot) : (s.setSlot k v).powered = s.powered := rfl
@[simp] theorem setSlot_pending (s : State) (k : Fin 24) (v : Option BandSlot) : (s.setSlot k v).pending = s.pending := rfl
@[simp] theorem setSlot_jobs (s : State) (k : Fin 24) (v : Option BandSlot) : (s.setSlot k v).jobs = s.jobs := rfl
@[simp] theorem setSlot_lanes (s : State) (k : Fin 24) (v : Option BandSlot) : (s.setSlot k v).lanes = s.lanes := rfl
@[simp] theorem setSlot_candidates (s : State) (k : Fin 24) (v : Option BandSlot) : (s.setSlot k v).candidates = s.candidates := rfl
@[simp] theorem setSlot_records (s : State) (k : Fin 24) (v : Option BandSlot) : (s.setSlot k v).records = s.records := rfl
@[simp] theorem setSlot_commitCount (s : State) (k : Fin 24) (v : Option BandSlot) : (s.setSlot k v).commitCount = s.commitCount := rfl
@[simp] theorem setSlot_profiles (s : State) (k : Fin 24) (v : Option BandSlot) : (s.setSlot k v).profiles = s.profiles := rfl
@[simp] theorem setSlot_store (s : State) (k : Fin 24) (v : Option BandSlot) : (s.setSlot k v).store = s.store := rfl
@[simp] theorem setSlot_saving (s : State) (k : Fin 24) (v : Option BandSlot) : (s.setSlot k v).saving = s.saving := rfl
@[simp] theorem setSlot_lastSave (s : State) (k : Fin 24) (v : Option BandSlot) : (s.setSlot k v).lastSave = s.lastSave := rfl
@[simp] theorem setSlot_startup (s : State) (k : Fin 24) (v : Option BandSlot) : (s.setSlot k v).startup = s.startup := rfl
@[simp] theorem setSlot_failedSlots (s : State) (k : Fin 24) (v : Option BandSlot) : (s.setSlot k v).failedSlots = s.failedSlots := rfl
@[simp] theorem setSlot_cutOffSlot (s : State) (k : Fin 24) (v : Option BandSlot) : (s.setSlot k v).cutOffSlot = s.cutOffSlot := rfl
@[simp] theorem setSlot_receiver (s : State) (k : Fin 24) (v : Option BandSlot) : (s.setSlot k v).receiver = s.receiver := rfl
@[simp] theorem setSlot_reception (s : State) (k : Fin 24) (v : Option BandSlot) : (s.setSlot k v).reception = s.reception := rfl
@[simp] theorem setSlot_inbound (s : State) (k : Fin 24) (v : Option BandSlot) : (s.setSlot k v).inbound = s.inbound := rfl
@[simp] theorem setSlot_replies (s : State) (k : Fin 24) (v : Option BandSlot) : (s.setSlot k v).replies = s.replies := rfl
@[simp] theorem setSlot_inHand (s : State) (k : Fin 24) (v : Option BandSlot) : (s.setSlot k v).inHand = s.inHand := rfl
@[simp] theorem setSlot_errorCounter (s : State) (k : Fin 24) (v : Option BandSlot) : (s.setSlot k v).errorCounter = s.errorCounter := rfl
@[simp] theorem setSlot_threshold (s : State) (k : Fin 24) (v : Option BandSlot) : (s.setSlot k v).threshold = s.threshold := rfl
@[simp] theorem setSlot_totals (s : State) (k : Fin 24) (v : Option BandSlot) : (s.setSlot k v).totals = s.totals := rfl
@[simp] theorem setSlot_quiet (s : State) (k : Fin 24) (v : Option BandSlot) : (s.setSlot k v).quiet = s.quiet := rfl
@[simp] theorem setSlot_straps (s : State) (k : Fin 24) (v : Option BandSlot) : (s.setSlot k v).straps = s.straps := rfl
@[simp] theorem setSlot_marks (s : State) (k : Fin 24) (v : Option BandSlot) : (s.setSlot k v).marks = s.marks := rfl
@[simp] theorem setSlot_resetCause (s : State) (k : Fin 24) (v : Option BandSlot) : (s.setSlot k v).resetCause = s.resetCause := rfl
@[simp] theorem setSlot_transmitter (s : State) (k : Fin 24) (v : Option BandSlot) : (s.setSlot k v).transmitter = s.transmitter := rfl

/-! ### setLane -/

@[simp] theorem setLane_powered (s : State) (l : Fin 2) (v : Option PassState) : (s.setLane l v).powered = s.powered := rfl
@[simp] theorem setLane_pending (s : State) (l : Fin 2) (v : Option PassState) : (s.setLane l v).pending = s.pending := rfl
@[simp] theorem setLane_jobs (s : State) (l : Fin 2) (v : Option PassState) : (s.setLane l v).jobs = s.jobs := rfl
@[simp] theorem setLane_slots (s : State) (l : Fin 2) (v : Option PassState) : (s.setLane l v).slots = s.slots := rfl
@[simp] theorem setLane_candidates (s : State) (l : Fin 2) (v : Option PassState) : (s.setLane l v).candidates = s.candidates := rfl
@[simp] theorem setLane_records (s : State) (l : Fin 2) (v : Option PassState) : (s.setLane l v).records = s.records := rfl
@[simp] theorem setLane_commitCount (s : State) (l : Fin 2) (v : Option PassState) : (s.setLane l v).commitCount = s.commitCount := rfl
@[simp] theorem setLane_profiles (s : State) (l : Fin 2) (v : Option PassState) : (s.setLane l v).profiles = s.profiles := rfl
@[simp] theorem setLane_store (s : State) (l : Fin 2) (v : Option PassState) : (s.setLane l v).store = s.store := rfl
@[simp] theorem setLane_saving (s : State) (l : Fin 2) (v : Option PassState) : (s.setLane l v).saving = s.saving := rfl
@[simp] theorem setLane_lastSave (s : State) (l : Fin 2) (v : Option PassState) : (s.setLane l v).lastSave = s.lastSave := rfl
@[simp] theorem setLane_startup (s : State) (l : Fin 2) (v : Option PassState) : (s.setLane l v).startup = s.startup := rfl
@[simp] theorem setLane_failedSlots (s : State) (l : Fin 2) (v : Option PassState) : (s.setLane l v).failedSlots = s.failedSlots := rfl
@[simp] theorem setLane_cutOffSlot (s : State) (l : Fin 2) (v : Option PassState) : (s.setLane l v).cutOffSlot = s.cutOffSlot := rfl
@[simp] theorem setLane_receiver (s : State) (l : Fin 2) (v : Option PassState) : (s.setLane l v).receiver = s.receiver := rfl
@[simp] theorem setLane_reception (s : State) (l : Fin 2) (v : Option PassState) : (s.setLane l v).reception = s.reception := rfl
@[simp] theorem setLane_inbound (s : State) (l : Fin 2) (v : Option PassState) : (s.setLane l v).inbound = s.inbound := rfl
@[simp] theorem setLane_replies (s : State) (l : Fin 2) (v : Option PassState) : (s.setLane l v).replies = s.replies := rfl
@[simp] theorem setLane_inHand (s : State) (l : Fin 2) (v : Option PassState) : (s.setLane l v).inHand = s.inHand := rfl
@[simp] theorem setLane_errorCounter (s : State) (l : Fin 2) (v : Option PassState) : (s.setLane l v).errorCounter = s.errorCounter := rfl
@[simp] theorem setLane_threshold (s : State) (l : Fin 2) (v : Option PassState) : (s.setLane l v).threshold = s.threshold := rfl
@[simp] theorem setLane_totals (s : State) (l : Fin 2) (v : Option PassState) : (s.setLane l v).totals = s.totals := rfl
@[simp] theorem setLane_quiet (s : State) (l : Fin 2) (v : Option PassState) : (s.setLane l v).quiet = s.quiet := rfl
@[simp] theorem setLane_straps (s : State) (l : Fin 2) (v : Option PassState) : (s.setLane l v).straps = s.straps := rfl
@[simp] theorem setLane_marks (s : State) (l : Fin 2) (v : Option PassState) : (s.setLane l v).marks = s.marks := rfl
@[simp] theorem setLane_resetCause (s : State) (l : Fin 2) (v : Option PassState) : (s.setLane l v).resetCause = s.resetCause := rfl
@[simp] theorem setLane_transmitter (s : State) (l : Fin 2) (v : Option PassState) : (s.setLane l v).transmitter = s.transmitter := rfl

/-! ### leave -/

@[simp] theorem leave_powered (s : State) (j : Fin 8) (k : Fin 24) : (s.leave j k).powered = s.powered := rfl
@[simp] theorem leave_pending (s : State) (j : Fin 8) (k : Fin 24) : (s.leave j k).pending = s.pending := rfl
@[simp] theorem leave_jobs (s : State) (j : Fin 8) (k : Fin 24) : (s.leave j k).jobs = s.jobs := rfl
@[simp] theorem leave_lanes (s : State) (j : Fin 8) (k : Fin 24) : (s.leave j k).lanes = s.lanes := rfl
@[simp] theorem leave_candidates (s : State) (j : Fin 8) (k : Fin 24) : (s.leave j k).candidates = s.candidates := rfl
@[simp] theorem leave_records (s : State) (j : Fin 8) (k : Fin 24) : (s.leave j k).records = s.records := rfl
@[simp] theorem leave_commitCount (s : State) (j : Fin 8) (k : Fin 24) : (s.leave j k).commitCount = s.commitCount := rfl
@[simp] theorem leave_profiles (s : State) (j : Fin 8) (k : Fin 24) : (s.leave j k).profiles = s.profiles := rfl
@[simp] theorem leave_store (s : State) (j : Fin 8) (k : Fin 24) : (s.leave j k).store = s.store := rfl
@[simp] theorem leave_saving (s : State) (j : Fin 8) (k : Fin 24) : (s.leave j k).saving = s.saving := rfl
@[simp] theorem leave_lastSave (s : State) (j : Fin 8) (k : Fin 24) : (s.leave j k).lastSave = s.lastSave := rfl
@[simp] theorem leave_startup (s : State) (j : Fin 8) (k : Fin 24) : (s.leave j k).startup = s.startup := rfl
@[simp] theorem leave_failedSlots (s : State) (j : Fin 8) (k : Fin 24) : (s.leave j k).failedSlots = s.failedSlots := rfl
@[simp] theorem leave_cutOffSlot (s : State) (j : Fin 8) (k : Fin 24) : (s.leave j k).cutOffSlot = s.cutOffSlot := rfl
@[simp] theorem leave_receiver (s : State) (j : Fin 8) (k : Fin 24) : (s.leave j k).receiver = s.receiver := rfl
@[simp] theorem leave_reception (s : State) (j : Fin 8) (k : Fin 24) : (s.leave j k).reception = s.reception := rfl
@[simp] theorem leave_inbound (s : State) (j : Fin 8) (k : Fin 24) : (s.leave j k).inbound = s.inbound := rfl
@[simp] theorem leave_replies (s : State) (j : Fin 8) (k : Fin 24) : (s.leave j k).replies = s.replies := rfl
@[simp] theorem leave_inHand (s : State) (j : Fin 8) (k : Fin 24) : (s.leave j k).inHand = s.inHand := rfl
@[simp] theorem leave_errorCounter (s : State) (j : Fin 8) (k : Fin 24) : (s.leave j k).errorCounter = s.errorCounter := rfl
@[simp] theorem leave_threshold (s : State) (j : Fin 8) (k : Fin 24) : (s.leave j k).threshold = s.threshold := rfl
@[simp] theorem leave_totals (s : State) (j : Fin 8) (k : Fin 24) : (s.leave j k).totals = s.totals := rfl
@[simp] theorem leave_quiet (s : State) (j : Fin 8) (k : Fin 24) : (s.leave j k).quiet = s.quiet := rfl
@[simp] theorem leave_straps (s : State) (j : Fin 8) (k : Fin 24) : (s.leave j k).straps = s.straps := rfl
@[simp] theorem leave_marks (s : State) (j : Fin 8) (k : Fin 24) : (s.leave j k).marks = s.marks := rfl
@[simp] theorem leave_resetCause (s : State) (j : Fin 8) (k : Fin 24) : (s.leave j k).resetCause = s.resetCause := rfl
@[simp] theorem leave_transmitter (s : State) (j : Fin 8) (k : Fin 24) : (s.leave j k).transmitter = s.transmitter := rfl

/-! ### leaveAll -/

@[simp] theorem leaveAll_powered (s : State) (j : Fin 8) : (s.leaveAll j).powered = s.powered := by simp only [State.leaveAll]
@[simp] theorem leaveAll_pending (s : State) (j : Fin 8) : (s.leaveAll j).pending = s.pending := by simp only [State.leaveAll]
@[simp] theorem leaveAll_jobs (s : State) (j : Fin 8) : (s.leaveAll j).jobs = s.jobs := by simp only [State.leaveAll]
@[simp] theorem leaveAll_lanes (s : State) (j : Fin 8) : (s.leaveAll j).lanes = s.lanes := by simp only [State.leaveAll]
@[simp] theorem leaveAll_candidates (s : State) (j : Fin 8) : (s.leaveAll j).candidates = s.candidates := by simp only [State.leaveAll]
@[simp] theorem leaveAll_records (s : State) (j : Fin 8) : (s.leaveAll j).records = s.records := by simp only [State.leaveAll]
@[simp] theorem leaveAll_commitCount (s : State) (j : Fin 8) : (s.leaveAll j).commitCount = s.commitCount := by simp only [State.leaveAll]
@[simp] theorem leaveAll_profiles (s : State) (j : Fin 8) : (s.leaveAll j).profiles = s.profiles := by simp only [State.leaveAll]
@[simp] theorem leaveAll_store (s : State) (j : Fin 8) : (s.leaveAll j).store = s.store := by simp only [State.leaveAll]
@[simp] theorem leaveAll_saving (s : State) (j : Fin 8) : (s.leaveAll j).saving = s.saving := by simp only [State.leaveAll]
@[simp] theorem leaveAll_lastSave (s : State) (j : Fin 8) : (s.leaveAll j).lastSave = s.lastSave := by simp only [State.leaveAll]
@[simp] theorem leaveAll_startup (s : State) (j : Fin 8) : (s.leaveAll j).startup = s.startup := by simp only [State.leaveAll]
@[simp] theorem leaveAll_failedSlots (s : State) (j : Fin 8) : (s.leaveAll j).failedSlots = s.failedSlots := by simp only [State.leaveAll]
@[simp] theorem leaveAll_cutOffSlot (s : State) (j : Fin 8) : (s.leaveAll j).cutOffSlot = s.cutOffSlot := by simp only [State.leaveAll]
@[simp] theorem leaveAll_receiver (s : State) (j : Fin 8) : (s.leaveAll j).receiver = s.receiver := by simp only [State.leaveAll]
@[simp] theorem leaveAll_reception (s : State) (j : Fin 8) : (s.leaveAll j).reception = s.reception := by simp only [State.leaveAll]
@[simp] theorem leaveAll_inbound (s : State) (j : Fin 8) : (s.leaveAll j).inbound = s.inbound := by simp only [State.leaveAll]
@[simp] theorem leaveAll_replies (s : State) (j : Fin 8) : (s.leaveAll j).replies = s.replies := by simp only [State.leaveAll]
@[simp] theorem leaveAll_inHand (s : State) (j : Fin 8) : (s.leaveAll j).inHand = s.inHand := by simp only [State.leaveAll]
@[simp] theorem leaveAll_errorCounter (s : State) (j : Fin 8) : (s.leaveAll j).errorCounter = s.errorCounter := by simp only [State.leaveAll]
@[simp] theorem leaveAll_threshold (s : State) (j : Fin 8) : (s.leaveAll j).threshold = s.threshold := by simp only [State.leaveAll]
@[simp] theorem leaveAll_totals (s : State) (j : Fin 8) : (s.leaveAll j).totals = s.totals := by simp only [State.leaveAll]
@[simp] theorem leaveAll_quiet (s : State) (j : Fin 8) : (s.leaveAll j).quiet = s.quiet := by simp only [State.leaveAll]
@[simp] theorem leaveAll_straps (s : State) (j : Fin 8) : (s.leaveAll j).straps = s.straps := by simp only [State.leaveAll]
@[simp] theorem leaveAll_marks (s : State) (j : Fin 8) : (s.leaveAll j).marks = s.marks := by simp only [State.leaveAll]
@[simp] theorem leaveAll_resetCause (s : State) (j : Fin 8) : (s.leaveAll j).resetCause = s.resetCause := by simp only [State.leaveAll]
@[simp] theorem leaveAll_transmitter (s : State) (j : Fin 8) : (s.leaveAll j).transmitter = s.transmitter := by simp only [State.leaveAll]

/-! ### post -/

@[simp] theorem post_powered (s : State) (kind unit : Byte) (code : ReplyCode) (data : List Byte) : (s.post kind unit code data).powered = s.powered := rfl
@[simp] theorem post_pending (s : State) (kind unit : Byte) (code : ReplyCode) (data : List Byte) : (s.post kind unit code data).pending = s.pending := rfl
@[simp] theorem post_jobs (s : State) (kind unit : Byte) (code : ReplyCode) (data : List Byte) : (s.post kind unit code data).jobs = s.jobs := rfl
@[simp] theorem post_slots (s : State) (kind unit : Byte) (code : ReplyCode) (data : List Byte) : (s.post kind unit code data).slots = s.slots := rfl
@[simp] theorem post_lanes (s : State) (kind unit : Byte) (code : ReplyCode) (data : List Byte) : (s.post kind unit code data).lanes = s.lanes := rfl
@[simp] theorem post_candidates (s : State) (kind unit : Byte) (code : ReplyCode) (data : List Byte) : (s.post kind unit code data).candidates = s.candidates := rfl
@[simp] theorem post_records (s : State) (kind unit : Byte) (code : ReplyCode) (data : List Byte) : (s.post kind unit code data).records = s.records := rfl
@[simp] theorem post_commitCount (s : State) (kind unit : Byte) (code : ReplyCode) (data : List Byte) : (s.post kind unit code data).commitCount = s.commitCount := rfl
@[simp] theorem post_profiles (s : State) (kind unit : Byte) (code : ReplyCode) (data : List Byte) : (s.post kind unit code data).profiles = s.profiles := rfl
@[simp] theorem post_store (s : State) (kind unit : Byte) (code : ReplyCode) (data : List Byte) : (s.post kind unit code data).store = s.store := rfl
@[simp] theorem post_saving (s : State) (kind unit : Byte) (code : ReplyCode) (data : List Byte) : (s.post kind unit code data).saving = s.saving := rfl
@[simp] theorem post_lastSave (s : State) (kind unit : Byte) (code : ReplyCode) (data : List Byte) : (s.post kind unit code data).lastSave = s.lastSave := rfl
@[simp] theorem post_startup (s : State) (kind unit : Byte) (code : ReplyCode) (data : List Byte) : (s.post kind unit code data).startup = s.startup := rfl
@[simp] theorem post_failedSlots (s : State) (kind unit : Byte) (code : ReplyCode) (data : List Byte) : (s.post kind unit code data).failedSlots = s.failedSlots := rfl
@[simp] theorem post_cutOffSlot (s : State) (kind unit : Byte) (code : ReplyCode) (data : List Byte) : (s.post kind unit code data).cutOffSlot = s.cutOffSlot := rfl
@[simp] theorem post_receiver (s : State) (kind unit : Byte) (code : ReplyCode) (data : List Byte) : (s.post kind unit code data).receiver = s.receiver := rfl
@[simp] theorem post_reception (s : State) (kind unit : Byte) (code : ReplyCode) (data : List Byte) : (s.post kind unit code data).reception = s.reception := rfl
@[simp] theorem post_inbound (s : State) (kind unit : Byte) (code : ReplyCode) (data : List Byte) : (s.post kind unit code data).inbound = s.inbound := rfl
@[simp] theorem post_inHand (s : State) (kind unit : Byte) (code : ReplyCode) (data : List Byte) : (s.post kind unit code data).inHand = s.inHand := rfl
@[simp] theorem post_errorCounter (s : State) (kind unit : Byte) (code : ReplyCode) (data : List Byte) : (s.post kind unit code data).errorCounter = s.errorCounter := rfl
@[simp] theorem post_threshold (s : State) (kind unit : Byte) (code : ReplyCode) (data : List Byte) : (s.post kind unit code data).threshold = s.threshold := rfl
@[simp] theorem post_totals (s : State) (kind unit : Byte) (code : ReplyCode) (data : List Byte) : (s.post kind unit code data).totals = s.totals := rfl
@[simp] theorem post_quiet (s : State) (kind unit : Byte) (code : ReplyCode) (data : List Byte) : (s.post kind unit code data).quiet = s.quiet := rfl
@[simp] theorem post_straps (s : State) (kind unit : Byte) (code : ReplyCode) (data : List Byte) : (s.post kind unit code data).straps = s.straps := rfl
@[simp] theorem post_marks (s : State) (kind unit : Byte) (code : ReplyCode) (data : List Byte) : (s.post kind unit code data).marks = s.marks := rfl
@[simp] theorem post_resetCause (s : State) (kind unit : Byte) (code : ReplyCode) (data : List Byte) : (s.post kind unit code data).resetCause = s.resetCause := rfl
@[simp] theorem post_transmitter (s : State) (kind unit : Byte) (code : ReplyCode) (data : List Byte) : (s.post kind unit code data).transmitter = s.transmitter := rfl

/-! ### answer -/

@[simp] theorem answer_powered (s : State) (f : Frame) (code : ReplyCode) (data : List Byte) : (s.answer f code data).powered = s.powered := rfl
@[simp] theorem answer_pending (s : State) (f : Frame) (code : ReplyCode) (data : List Byte) : (s.answer f code data).pending = s.pending := rfl
@[simp] theorem answer_jobs (s : State) (f : Frame) (code : ReplyCode) (data : List Byte) : (s.answer f code data).jobs = s.jobs := rfl
@[simp] theorem answer_slots (s : State) (f : Frame) (code : ReplyCode) (data : List Byte) : (s.answer f code data).slots = s.slots := rfl
@[simp] theorem answer_lanes (s : State) (f : Frame) (code : ReplyCode) (data : List Byte) : (s.answer f code data).lanes = s.lanes := rfl
@[simp] theorem answer_candidates (s : State) (f : Frame) (code : ReplyCode) (data : List Byte) : (s.answer f code data).candidates = s.candidates := rfl
@[simp] theorem answer_records (s : State) (f : Frame) (code : ReplyCode) (data : List Byte) : (s.answer f code data).records = s.records := rfl
@[simp] theorem answer_commitCount (s : State) (f : Frame) (code : ReplyCode) (data : List Byte) : (s.answer f code data).commitCount = s.commitCount := rfl
@[simp] theorem answer_profiles (s : State) (f : Frame) (code : ReplyCode) (data : List Byte) : (s.answer f code data).profiles = s.profiles := rfl
@[simp] theorem answer_store (s : State) (f : Frame) (code : ReplyCode) (data : List Byte) : (s.answer f code data).store = s.store := rfl
@[simp] theorem answer_saving (s : State) (f : Frame) (code : ReplyCode) (data : List Byte) : (s.answer f code data).saving = s.saving := rfl
@[simp] theorem answer_lastSave (s : State) (f : Frame) (code : ReplyCode) (data : List Byte) : (s.answer f code data).lastSave = s.lastSave := rfl
@[simp] theorem answer_startup (s : State) (f : Frame) (code : ReplyCode) (data : List Byte) : (s.answer f code data).startup = s.startup := rfl
@[simp] theorem answer_failedSlots (s : State) (f : Frame) (code : ReplyCode) (data : List Byte) : (s.answer f code data).failedSlots = s.failedSlots := rfl
@[simp] theorem answer_cutOffSlot (s : State) (f : Frame) (code : ReplyCode) (data : List Byte) : (s.answer f code data).cutOffSlot = s.cutOffSlot := rfl
@[simp] theorem answer_receiver (s : State) (f : Frame) (code : ReplyCode) (data : List Byte) : (s.answer f code data).receiver = s.receiver := rfl
@[simp] theorem answer_reception (s : State) (f : Frame) (code : ReplyCode) (data : List Byte) : (s.answer f code data).reception = s.reception := rfl
@[simp] theorem answer_inbound (s : State) (f : Frame) (code : ReplyCode) (data : List Byte) : (s.answer f code data).inbound = s.inbound := rfl
@[simp] theorem answer_inHand (s : State) (f : Frame) (code : ReplyCode) (data : List Byte) : (s.answer f code data).inHand = s.inHand := rfl
@[simp] theorem answer_errorCounter (s : State) (f : Frame) (code : ReplyCode) (data : List Byte) : (s.answer f code data).errorCounter = s.errorCounter := rfl
@[simp] theorem answer_threshold (s : State) (f : Frame) (code : ReplyCode) (data : List Byte) : (s.answer f code data).threshold = s.threshold := rfl
@[simp] theorem answer_totals (s : State) (f : Frame) (code : ReplyCode) (data : List Byte) : (s.answer f code data).totals = s.totals := rfl
@[simp] theorem answer_quiet (s : State) (f : Frame) (code : ReplyCode) (data : List Byte) : (s.answer f code data).quiet = s.quiet := rfl
@[simp] theorem answer_straps (s : State) (f : Frame) (code : ReplyCode) (data : List Byte) : (s.answer f code data).straps = s.straps := rfl
@[simp] theorem answer_marks (s : State) (f : Frame) (code : ReplyCode) (data : List Byte) : (s.answer f code data).marks = s.marks := rfl
@[simp] theorem answer_resetCause (s : State) (f : Frame) (code : ReplyCode) (data : List Byte) : (s.answer f code data).resetCause = s.resetCause := rfl
@[simp] theorem answer_transmitter (s : State) (f : Frame) (code : ReplyCode) (data : List Byte) : (s.answer f code data).transmitter = s.transmitter := rfl

/-! ### setContent -/

@[simp] theorem setContent_powered (s : State) (k : Fin 8) (c : ProfileContent) : (s.setContent k c).powered = s.powered := rfl
@[simp] theorem setContent_pending (s : State) (k : Fin 8) (c : ProfileContent) : (s.setContent k c).pending = s.pending := rfl
@[simp] theorem setContent_jobs (s : State) (k : Fin 8) (c : ProfileContent) : (s.setContent k c).jobs = s.jobs := rfl
@[simp] theorem setContent_slots (s : State) (k : Fin 8) (c : ProfileContent) : (s.setContent k c).slots = s.slots := rfl
@[simp] theorem setContent_lanes (s : State) (k : Fin 8) (c : ProfileContent) : (s.setContent k c).lanes = s.lanes := rfl
@[simp] theorem setContent_candidates (s : State) (k : Fin 8) (c : ProfileContent) : (s.setContent k c).candidates = s.candidates := rfl
@[simp] theorem setContent_records (s : State) (k : Fin 8) (c : ProfileContent) : (s.setContent k c).records = s.records := rfl
@[simp] theorem setContent_commitCount (s : State) (k : Fin 8) (c : ProfileContent) : (s.setContent k c).commitCount = s.commitCount := rfl
@[simp] theorem setContent_store (s : State) (k : Fin 8) (c : ProfileContent) : (s.setContent k c).store = s.store := rfl
@[simp] theorem setContent_saving (s : State) (k : Fin 8) (c : ProfileContent) : (s.setContent k c).saving = s.saving := rfl
@[simp] theorem setContent_lastSave (s : State) (k : Fin 8) (c : ProfileContent) : (s.setContent k c).lastSave = s.lastSave := rfl
@[simp] theorem setContent_startup (s : State) (k : Fin 8) (c : ProfileContent) : (s.setContent k c).startup = s.startup := rfl
@[simp] theorem setContent_failedSlots (s : State) (k : Fin 8) (c : ProfileContent) : (s.setContent k c).failedSlots = s.failedSlots := rfl
@[simp] theorem setContent_cutOffSlot (s : State) (k : Fin 8) (c : ProfileContent) : (s.setContent k c).cutOffSlot = s.cutOffSlot := rfl
@[simp] theorem setContent_receiver (s : State) (k : Fin 8) (c : ProfileContent) : (s.setContent k c).receiver = s.receiver := rfl
@[simp] theorem setContent_reception (s : State) (k : Fin 8) (c : ProfileContent) : (s.setContent k c).reception = s.reception := rfl
@[simp] theorem setContent_inbound (s : State) (k : Fin 8) (c : ProfileContent) : (s.setContent k c).inbound = s.inbound := rfl
@[simp] theorem setContent_replies (s : State) (k : Fin 8) (c : ProfileContent) : (s.setContent k c).replies = s.replies := rfl
@[simp] theorem setContent_inHand (s : State) (k : Fin 8) (c : ProfileContent) : (s.setContent k c).inHand = s.inHand := rfl
@[simp] theorem setContent_errorCounter (s : State) (k : Fin 8) (c : ProfileContent) : (s.setContent k c).errorCounter = s.errorCounter := rfl
@[simp] theorem setContent_threshold (s : State) (k : Fin 8) (c : ProfileContent) : (s.setContent k c).threshold = s.threshold := rfl
@[simp] theorem setContent_totals (s : State) (k : Fin 8) (c : ProfileContent) : (s.setContent k c).totals = s.totals := rfl
@[simp] theorem setContent_quiet (s : State) (k : Fin 8) (c : ProfileContent) : (s.setContent k c).quiet = s.quiet := rfl
@[simp] theorem setContent_straps (s : State) (k : Fin 8) (c : ProfileContent) : (s.setContent k c).straps = s.straps := rfl
@[simp] theorem setContent_marks (s : State) (k : Fin 8) (c : ProfileContent) : (s.setContent k c).marks = s.marks := rfl
@[simp] theorem setContent_resetCause (s : State) (k : Fin 8) (c : ProfileContent) : (s.setContent k c).resetCause = s.resetCause := rfl
@[simp] theorem setContent_transmitter (s : State) (k : Fin 8) (c : ProfileContent) : (s.setContent k c).transmitter = s.transmitter := rfl

/-! ### freeContext -/

@[simp] theorem freeContext_powered (s : State) (j : Fin 8) : (s.freeContext j).powered = s.powered := by simp only [State.freeContext, setJob_powered, leaveAll_powered]
@[simp] theorem freeContext_pending (s : State) (j : Fin 8) : (s.freeContext j).pending = s.pending := by simp only [State.freeContext, setJob_pending, leaveAll_pending]
@[simp] theorem freeContext_candidates (s : State) (j : Fin 8) : (s.freeContext j).candidates = s.candidates := by simp only [State.freeContext, setJob_candidates, leaveAll_candidates]
@[simp] theorem freeContext_records (s : State) (j : Fin 8) : (s.freeContext j).records = s.records := by simp only [State.freeContext, setJob_records, leaveAll_records]
@[simp] theorem freeContext_commitCount (s : State) (j : Fin 8) : (s.freeContext j).commitCount = s.commitCount := by simp only [State.freeContext, setJob_commitCount, leaveAll_commitCount]
@[simp] theorem freeContext_profiles (s : State) (j : Fin 8) : (s.freeContext j).profiles = s.profiles := by simp only [State.freeContext, setJob_profiles, leaveAll_profiles]
@[simp] theorem freeContext_store (s : State) (j : Fin 8) : (s.freeContext j).store = s.store := by simp only [State.freeContext, setJob_store, leaveAll_store]
@[simp] theorem freeContext_saving (s : State) (j : Fin 8) : (s.freeContext j).saving = s.saving := by simp only [State.freeContext, setJob_saving, leaveAll_saving]
@[simp] theorem freeContext_lastSave (s : State) (j : Fin 8) : (s.freeContext j).lastSave = s.lastSave := by simp only [State.freeContext, setJob_lastSave, leaveAll_lastSave]
@[simp] theorem freeContext_startup (s : State) (j : Fin 8) : (s.freeContext j).startup = s.startup := by simp only [State.freeContext, setJob_startup, leaveAll_startup]
@[simp] theorem freeContext_failedSlots (s : State) (j : Fin 8) : (s.freeContext j).failedSlots = s.failedSlots := by simp only [State.freeContext, setJob_failedSlots, leaveAll_failedSlots]
@[simp] theorem freeContext_cutOffSlot (s : State) (j : Fin 8) : (s.freeContext j).cutOffSlot = s.cutOffSlot := by simp only [State.freeContext, setJob_cutOffSlot, leaveAll_cutOffSlot]
@[simp] theorem freeContext_receiver (s : State) (j : Fin 8) : (s.freeContext j).receiver = s.receiver := by simp only [State.freeContext, setJob_receiver, leaveAll_receiver]
@[simp] theorem freeContext_reception (s : State) (j : Fin 8) : (s.freeContext j).reception = s.reception := by simp only [State.freeContext, setJob_reception, leaveAll_reception]
@[simp] theorem freeContext_inbound (s : State) (j : Fin 8) : (s.freeContext j).inbound = s.inbound := by simp only [State.freeContext, setJob_inbound, leaveAll_inbound]
@[simp] theorem freeContext_replies (s : State) (j : Fin 8) : (s.freeContext j).replies = s.replies := by simp only [State.freeContext, setJob_replies, leaveAll_replies]
@[simp] theorem freeContext_inHand (s : State) (j : Fin 8) : (s.freeContext j).inHand = s.inHand := by simp only [State.freeContext, setJob_inHand, leaveAll_inHand]
@[simp] theorem freeContext_errorCounter (s : State) (j : Fin 8) : (s.freeContext j).errorCounter = s.errorCounter := by simp only [State.freeContext, setJob_errorCounter, leaveAll_errorCounter]
@[simp] theorem freeContext_threshold (s : State) (j : Fin 8) : (s.freeContext j).threshold = s.threshold := by simp only [State.freeContext, setJob_threshold, leaveAll_threshold]
@[simp] theorem freeContext_totals (s : State) (j : Fin 8) : (s.freeContext j).totals = s.totals := by simp only [State.freeContext, setJob_totals, leaveAll_totals]
@[simp] theorem freeContext_quiet (s : State) (j : Fin 8) : (s.freeContext j).quiet = s.quiet := by simp only [State.freeContext, setJob_quiet, leaveAll_quiet]
@[simp] theorem freeContext_straps (s : State) (j : Fin 8) : (s.freeContext j).straps = s.straps := by simp only [State.freeContext, setJob_straps, leaveAll_straps]
@[simp] theorem freeContext_marks (s : State) (j : Fin 8) : (s.freeContext j).marks = s.marks := by simp only [State.freeContext, setJob_marks, leaveAll_marks]
@[simp] theorem freeContext_resetCause (s : State) (j : Fin 8) : (s.freeContext j).resetCause = s.resetCause := by simp only [State.freeContext, setJob_resetCause, leaveAll_resetCause]
@[simp] theorem freeContext_transmitter (s : State) (j : Fin 8) : (s.freeContext j).transmitter = s.transmitter := by simp only [State.freeContext, setJob_transmitter, leaveAll_transmitter]

/-! ### commit -/

@[simp] theorem commit_powered (s : State) (j : Fin 8) (c : CommitSource) : (s.commit j c).powered = s.powered := rfl
@[simp] theorem commit_pending (s : State) (j : Fin 8) (c : CommitSource) : (s.commit j c).pending = s.pending := rfl
@[simp] theorem commit_lanes (s : State) (j : Fin 8) (c : CommitSource) : (s.commit j c).lanes = s.lanes := rfl
@[simp] theorem commit_candidates (s : State) (j : Fin 8) (c : CommitSource) : (s.commit j c).candidates = s.candidates := rfl
@[simp] theorem commit_profiles (s : State) (j : Fin 8) (c : CommitSource) : (s.commit j c).profiles = s.profiles := rfl
@[simp] theorem commit_store (s : State) (j : Fin 8) (c : CommitSource) : (s.commit j c).store = s.store := rfl
@[simp] theorem commit_saving (s : State) (j : Fin 8) (c : CommitSource) : (s.commit j c).saving = s.saving := rfl
@[simp] theorem commit_lastSave (s : State) (j : Fin 8) (c : CommitSource) : (s.commit j c).lastSave = s.lastSave := rfl
@[simp] theorem commit_startup (s : State) (j : Fin 8) (c : CommitSource) : (s.commit j c).startup = s.startup := rfl
@[simp] theorem commit_failedSlots (s : State) (j : Fin 8) (c : CommitSource) : (s.commit j c).failedSlots = s.failedSlots := rfl
@[simp] theorem commit_cutOffSlot (s : State) (j : Fin 8) (c : CommitSource) : (s.commit j c).cutOffSlot = s.cutOffSlot := rfl
@[simp] theorem commit_receiver (s : State) (j : Fin 8) (c : CommitSource) : (s.commit j c).receiver = s.receiver := rfl
@[simp] theorem commit_reception (s : State) (j : Fin 8) (c : CommitSource) : (s.commit j c).reception = s.reception := rfl
@[simp] theorem commit_inbound (s : State) (j : Fin 8) (c : CommitSource) : (s.commit j c).inbound = s.inbound := rfl
@[simp] theorem commit_replies (s : State) (j : Fin 8) (c : CommitSource) : (s.commit j c).replies = s.replies := rfl
@[simp] theorem commit_inHand (s : State) (j : Fin 8) (c : CommitSource) : (s.commit j c).inHand = s.inHand := rfl
@[simp] theorem commit_errorCounter (s : State) (j : Fin 8) (c : CommitSource) : (s.commit j c).errorCounter = s.errorCounter := rfl
@[simp] theorem commit_threshold (s : State) (j : Fin 8) (c : CommitSource) : (s.commit j c).threshold = s.threshold := rfl
@[simp] theorem commit_totals (s : State) (j : Fin 8) (c : CommitSource) : (s.commit j c).totals = s.totals := rfl
@[simp] theorem commit_quiet (s : State) (j : Fin 8) (c : CommitSource) : (s.commit j c).quiet = s.quiet := rfl
@[simp] theorem commit_straps (s : State) (j : Fin 8) (c : CommitSource) : (s.commit j c).straps = s.straps := rfl
@[simp] theorem commit_marks (s : State) (j : Fin 8) (c : CommitSource) : (s.commit j c).marks = s.marks := rfl
@[simp] theorem commit_resetCause (s : State) (j : Fin 8) (c : CommitSource) : (s.commit j c).resetCause = s.resetCause := rfl
@[simp] theorem commit_transmitter (s : State) (j : Fin 8) (c : CommitSource) : (s.commit j c).transmitter = s.transmitter := rfl

/-! ### updateCandidates -/

@[simp] theorem updateCandidates_powered (s : State) : s.updateCandidates.powered = s.powered := rfl
@[simp] theorem updateCandidates_pending (s : State) : s.updateCandidates.pending = s.pending := rfl
@[simp] theorem updateCandidates_jobs (s : State) : s.updateCandidates.jobs = s.jobs := rfl
@[simp] theorem updateCandidates_slots (s : State) : s.updateCandidates.slots = s.slots := rfl
@[simp] theorem updateCandidates_lanes (s : State) : s.updateCandidates.lanes = s.lanes := rfl
@[simp] theorem updateCandidates_records (s : State) : s.updateCandidates.records = s.records := rfl
@[simp] theorem updateCandidates_commitCount (s : State) : s.updateCandidates.commitCount = s.commitCount := rfl
@[simp] theorem updateCandidates_profiles (s : State) : s.updateCandidates.profiles = s.profiles := rfl
@[simp] theorem updateCandidates_store (s : State) : s.updateCandidates.store = s.store := rfl
@[simp] theorem updateCandidates_saving (s : State) : s.updateCandidates.saving = s.saving := rfl
@[simp] theorem updateCandidates_lastSave (s : State) : s.updateCandidates.lastSave = s.lastSave := rfl
@[simp] theorem updateCandidates_startup (s : State) : s.updateCandidates.startup = s.startup := rfl
@[simp] theorem updateCandidates_failedSlots (s : State) : s.updateCandidates.failedSlots = s.failedSlots := rfl
@[simp] theorem updateCandidates_cutOffSlot (s : State) : s.updateCandidates.cutOffSlot = s.cutOffSlot := rfl
@[simp] theorem updateCandidates_receiver (s : State) : s.updateCandidates.receiver = s.receiver := rfl
@[simp] theorem updateCandidates_reception (s : State) : s.updateCandidates.reception = s.reception := rfl
@[simp] theorem updateCandidates_inbound (s : State) : s.updateCandidates.inbound = s.inbound := rfl
@[simp] theorem updateCandidates_replies (s : State) : s.updateCandidates.replies = s.replies := rfl
@[simp] theorem updateCandidates_inHand (s : State) : s.updateCandidates.inHand = s.inHand := rfl
@[simp] theorem updateCandidates_errorCounter (s : State) : s.updateCandidates.errorCounter = s.errorCounter := rfl
@[simp] theorem updateCandidates_threshold (s : State) : s.updateCandidates.threshold = s.threshold := rfl
@[simp] theorem updateCandidates_totals (s : State) : s.updateCandidates.totals = s.totals := rfl
@[simp] theorem updateCandidates_quiet (s : State) : s.updateCandidates.quiet = s.quiet := rfl
@[simp] theorem updateCandidates_straps (s : State) : s.updateCandidates.straps = s.straps := rfl
@[simp] theorem updateCandidates_marks (s : State) : s.updateCandidates.marks = s.marks := rfl
@[simp] theorem updateCandidates_resetCause (s : State) : s.updateCandidates.resetCause = s.resetCause := rfl
@[simp] theorem updateCandidates_transmitter (s : State) : s.updateCandidates.transmitter = s.transmitter := rfl

/-! ### setRecord -/

@[simp] theorem setRecord_powered (s : State) (k : Fin 8) (r : StoreRecord) : (s.setRecord k r).powered = s.powered := by unfold State.setRecord; split <;> rfl
@[simp] theorem setRecord_pending (s : State) (k : Fin 8) (r : StoreRecord) : (s.setRecord k r).pending = s.pending := by unfold State.setRecord; split <;> rfl
@[simp] theorem setRecord_jobs (s : State) (k : Fin 8) (r : StoreRecord) : (s.setRecord k r).jobs = s.jobs := by unfold State.setRecord; split <;> rfl
@[simp] theorem setRecord_slots (s : State) (k : Fin 8) (r : StoreRecord) : (s.setRecord k r).slots = s.slots := by unfold State.setRecord; split <;> rfl
@[simp] theorem setRecord_lanes (s : State) (k : Fin 8) (r : StoreRecord) : (s.setRecord k r).lanes = s.lanes := by unfold State.setRecord; split <;> rfl
@[simp] theorem setRecord_candidates (s : State) (k : Fin 8) (r : StoreRecord) : (s.setRecord k r).candidates = s.candidates := by unfold State.setRecord; split <;> rfl
@[simp] theorem setRecord_records (s : State) (k : Fin 8) (r : StoreRecord) : (s.setRecord k r).records = s.records := by unfold State.setRecord; split <;> rfl
@[simp] theorem setRecord_commitCount (s : State) (k : Fin 8) (r : StoreRecord) : (s.setRecord k r).commitCount = s.commitCount := by unfold State.setRecord; split <;> rfl
@[simp] theorem setRecord_profiles (s : State) (k : Fin 8) (r : StoreRecord) : (s.setRecord k r).profiles = s.profiles := by unfold State.setRecord; split <;> rfl
@[simp] theorem setRecord_saving (s : State) (k : Fin 8) (r : StoreRecord) : (s.setRecord k r).saving = s.saving := by unfold State.setRecord; split <;> rfl
@[simp] theorem setRecord_lastSave (s : State) (k : Fin 8) (r : StoreRecord) : (s.setRecord k r).lastSave = s.lastSave := by unfold State.setRecord; split <;> rfl
@[simp] theorem setRecord_startup (s : State) (k : Fin 8) (r : StoreRecord) : (s.setRecord k r).startup = s.startup := by unfold State.setRecord; split <;> rfl
@[simp] theorem setRecord_failedSlots (s : State) (k : Fin 8) (r : StoreRecord) : (s.setRecord k r).failedSlots = s.failedSlots := by unfold State.setRecord; split <;> rfl
@[simp] theorem setRecord_cutOffSlot (s : State) (k : Fin 8) (r : StoreRecord) : (s.setRecord k r).cutOffSlot = s.cutOffSlot := by unfold State.setRecord; split <;> rfl
@[simp] theorem setRecord_receiver (s : State) (k : Fin 8) (r : StoreRecord) : (s.setRecord k r).receiver = s.receiver := by unfold State.setRecord; split <;> rfl
@[simp] theorem setRecord_reception (s : State) (k : Fin 8) (r : StoreRecord) : (s.setRecord k r).reception = s.reception := by unfold State.setRecord; split <;> rfl
@[simp] theorem setRecord_inbound (s : State) (k : Fin 8) (r : StoreRecord) : (s.setRecord k r).inbound = s.inbound := by unfold State.setRecord; split <;> rfl
@[simp] theorem setRecord_replies (s : State) (k : Fin 8) (r : StoreRecord) : (s.setRecord k r).replies = s.replies := by unfold State.setRecord; split <;> rfl
@[simp] theorem setRecord_inHand (s : State) (k : Fin 8) (r : StoreRecord) : (s.setRecord k r).inHand = s.inHand := by unfold State.setRecord; split <;> rfl
@[simp] theorem setRecord_errorCounter (s : State) (k : Fin 8) (r : StoreRecord) : (s.setRecord k r).errorCounter = s.errorCounter := by unfold State.setRecord; split <;> rfl
@[simp] theorem setRecord_threshold (s : State) (k : Fin 8) (r : StoreRecord) : (s.setRecord k r).threshold = s.threshold := by unfold State.setRecord; split <;> rfl
@[simp] theorem setRecord_totals (s : State) (k : Fin 8) (r : StoreRecord) : (s.setRecord k r).totals = s.totals := by unfold State.setRecord; split <;> rfl
@[simp] theorem setRecord_quiet (s : State) (k : Fin 8) (r : StoreRecord) : (s.setRecord k r).quiet = s.quiet := by unfold State.setRecord; split <;> rfl
@[simp] theorem setRecord_straps (s : State) (k : Fin 8) (r : StoreRecord) : (s.setRecord k r).straps = s.straps := by unfold State.setRecord; split <;> rfl
@[simp] theorem setRecord_marks (s : State) (k : Fin 8) (r : StoreRecord) : (s.setRecord k r).marks = s.marks := by unfold State.setRecord; split <;> rfl
@[simp] theorem setRecord_resetCause (s : State) (k : Fin 8) (r : StoreRecord) : (s.setRecord k r).resetCause = s.resetCause := by unfold State.setRecord; split <;> rfl
@[simp] theorem setRecord_transmitter (s : State) (k : Fin 8) (r : StoreRecord) : (s.setRecord k r).transmitter = s.transmitter := by unfold State.setRecord; split <;> rfl

/-! ### cutOffWrite -/

@[simp] theorem cutOffWrite_powered (s : State) : s.cutOffWrite.powered = s.powered := by unfold State.cutOffWrite; split <;> simp
@[simp] theorem cutOffWrite_pending (s : State) : s.cutOffWrite.pending = s.pending := by unfold State.cutOffWrite; split <;> simp
@[simp] theorem cutOffWrite_jobs (s : State) : s.cutOffWrite.jobs = s.jobs := by unfold State.cutOffWrite; split <;> simp
@[simp] theorem cutOffWrite_slots (s : State) : s.cutOffWrite.slots = s.slots := by unfold State.cutOffWrite; split <;> simp
@[simp] theorem cutOffWrite_lanes (s : State) : s.cutOffWrite.lanes = s.lanes := by unfold State.cutOffWrite; split <;> simp
@[simp] theorem cutOffWrite_candidates (s : State) : s.cutOffWrite.candidates = s.candidates := by unfold State.cutOffWrite; split <;> simp
@[simp] theorem cutOffWrite_records (s : State) : s.cutOffWrite.records = s.records := by unfold State.cutOffWrite; split <;> simp
@[simp] theorem cutOffWrite_commitCount (s : State) : s.cutOffWrite.commitCount = s.commitCount := by unfold State.cutOffWrite; split <;> simp
@[simp] theorem cutOffWrite_profiles (s : State) : s.cutOffWrite.profiles = s.profiles := by unfold State.cutOffWrite; split <;> simp
@[simp] theorem cutOffWrite_lastSave (s : State) : s.cutOffWrite.lastSave = s.lastSave := by unfold State.cutOffWrite; split <;> simp
@[simp] theorem cutOffWrite_startup (s : State) : s.cutOffWrite.startup = s.startup := by unfold State.cutOffWrite; split <;> simp
@[simp] theorem cutOffWrite_failedSlots (s : State) : s.cutOffWrite.failedSlots = s.failedSlots := by unfold State.cutOffWrite; split <;> simp
@[simp] theorem cutOffWrite_cutOffSlot (s : State) : s.cutOffWrite.cutOffSlot = s.cutOffSlot := by unfold State.cutOffWrite; split <;> simp
@[simp] theorem cutOffWrite_receiver (s : State) : s.cutOffWrite.receiver = s.receiver := by unfold State.cutOffWrite; split <;> simp
@[simp] theorem cutOffWrite_reception (s : State) : s.cutOffWrite.reception = s.reception := by unfold State.cutOffWrite; split <;> simp
@[simp] theorem cutOffWrite_inbound (s : State) : s.cutOffWrite.inbound = s.inbound := by unfold State.cutOffWrite; split <;> simp
@[simp] theorem cutOffWrite_replies (s : State) : s.cutOffWrite.replies = s.replies := by unfold State.cutOffWrite; split <;> simp
@[simp] theorem cutOffWrite_inHand (s : State) : s.cutOffWrite.inHand = s.inHand := by unfold State.cutOffWrite; split <;> simp
@[simp] theorem cutOffWrite_errorCounter (s : State) : s.cutOffWrite.errorCounter = s.errorCounter := by unfold State.cutOffWrite; split <;> simp
@[simp] theorem cutOffWrite_threshold (s : State) : s.cutOffWrite.threshold = s.threshold := by unfold State.cutOffWrite; split <;> simp
@[simp] theorem cutOffWrite_totals (s : State) : s.cutOffWrite.totals = s.totals := by unfold State.cutOffWrite; split <;> simp
@[simp] theorem cutOffWrite_quiet (s : State) : s.cutOffWrite.quiet = s.quiet := by unfold State.cutOffWrite; split <;> simp
@[simp] theorem cutOffWrite_straps (s : State) : s.cutOffWrite.straps = s.straps := by unfold State.cutOffWrite; split <;> simp
@[simp] theorem cutOffWrite_marks (s : State) : s.cutOffWrite.marks = s.marks := by unfold State.cutOffWrite; split <;> simp
@[simp] theorem cutOffWrite_resetCause (s : State) : s.cutOffWrite.resetCause = s.resetCause := by unfold State.cutOffWrite; split <;> simp
@[simp] theorem cutOffWrite_transmitter (s : State) : s.cutOffWrite.transmitter = s.transmitter := by unfold State.cutOffWrite; split <;> simp

/-! ### choose -/

@[simp] theorem choose_powered (s : State) : s.choose.powered = s.powered := by unfold State.choose; (repeat' split) <;> rfl
@[simp] theorem choose_pending (s : State) : s.choose.pending = s.pending := by unfold State.choose; (repeat' split) <;> rfl
@[simp] theorem choose_slots (s : State) : s.choose.slots = s.slots := by unfold State.choose; (repeat' split) <;> rfl
@[simp] theorem choose_lanes (s : State) : s.choose.lanes = s.lanes := by unfold State.choose; (repeat' split) <;> rfl
@[simp] theorem choose_candidates (s : State) : s.choose.candidates = s.candidates := by unfold State.choose; (repeat' split) <;> rfl
@[simp] theorem choose_records (s : State) : s.choose.records = s.records := by unfold State.choose; (repeat' split) <;> rfl
@[simp] theorem choose_commitCount (s : State) : s.choose.commitCount = s.commitCount := by unfold State.choose; (repeat' split) <;> rfl
@[simp] theorem choose_profiles (s : State) : s.choose.profiles = s.profiles := by unfold State.choose; (repeat' split) <;> rfl
@[simp] theorem choose_store (s : State) : s.choose.store = s.store := by unfold State.choose; (repeat' split) <;> rfl
@[simp] theorem choose_saving (s : State) : s.choose.saving = s.saving := by unfold State.choose; (repeat' split) <;> rfl
@[simp] theorem choose_lastSave (s : State) : s.choose.lastSave = s.lastSave := by unfold State.choose; (repeat' split) <;> rfl
@[simp] theorem choose_startup (s : State) : s.choose.startup = s.startup := by unfold State.choose; (repeat' split) <;> rfl
@[simp] theorem choose_failedSlots (s : State) : s.choose.failedSlots = s.failedSlots := by unfold State.choose; (repeat' split) <;> rfl
@[simp] theorem choose_cutOffSlot (s : State) : s.choose.cutOffSlot = s.cutOffSlot := by unfold State.choose; (repeat' split) <;> rfl
@[simp] theorem choose_receiver (s : State) : s.choose.receiver = s.receiver := by unfold State.choose; (repeat' split) <;> rfl
@[simp] theorem choose_reception (s : State) : s.choose.reception = s.reception := by unfold State.choose; (repeat' split) <;> rfl
@[simp] theorem choose_inbound (s : State) : s.choose.inbound = s.inbound := by unfold State.choose; (repeat' split) <;> rfl
@[simp] theorem choose_replies (s : State) : s.choose.replies = s.replies := by unfold State.choose; (repeat' split) <;> rfl
@[simp] theorem choose_inHand (s : State) : s.choose.inHand = s.inHand := by unfold State.choose; (repeat' split) <;> rfl
@[simp] theorem choose_errorCounter (s : State) : s.choose.errorCounter = s.errorCounter := by unfold State.choose; (repeat' split) <;> rfl
@[simp] theorem choose_threshold (s : State) : s.choose.threshold = s.threshold := by unfold State.choose; (repeat' split) <;> rfl
@[simp] theorem choose_totals (s : State) : s.choose.totals = s.totals := by unfold State.choose; (repeat' split) <;> rfl
@[simp] theorem choose_quiet (s : State) : s.choose.quiet = s.quiet := by unfold State.choose; (repeat' split) <;> rfl
@[simp] theorem choose_straps (s : State) : s.choose.straps = s.straps := by unfold State.choose; (repeat' split) <;> rfl
@[simp] theorem choose_resetCause (s : State) : s.choose.resetCause = s.resetCause := by unfold State.choose; (repeat' split) <;> rfl

/-! ### arbitrate -/

@[simp] theorem arbitrate_powered (s : State) : s.arbitrate.powered = s.powered := by unfold State.arbitrate; split <;> simp
@[simp] theorem arbitrate_pending (s : State) : s.arbitrate.pending = s.pending := by unfold State.arbitrate; split <;> simp
@[simp] theorem arbitrate_slots (s : State) : s.arbitrate.slots = s.slots := by unfold State.arbitrate; split <;> simp
@[simp] theorem arbitrate_lanes (s : State) : s.arbitrate.lanes = s.lanes := by unfold State.arbitrate; split <;> simp
@[simp] theorem arbitrate_candidates (s : State) : s.arbitrate.candidates = s.candidates := by unfold State.arbitrate; split <;> simp
@[simp] theorem arbitrate_records (s : State) : s.arbitrate.records = s.records := by unfold State.arbitrate; split <;> simp
@[simp] theorem arbitrate_commitCount (s : State) : s.arbitrate.commitCount = s.commitCount := by unfold State.arbitrate; split <;> simp
@[simp] theorem arbitrate_profiles (s : State) : s.arbitrate.profiles = s.profiles := by unfold State.arbitrate; split <;> simp
@[simp] theorem arbitrate_store (s : State) : s.arbitrate.store = s.store := by unfold State.arbitrate; split <;> simp
@[simp] theorem arbitrate_saving (s : State) : s.arbitrate.saving = s.saving := by unfold State.arbitrate; split <;> simp
@[simp] theorem arbitrate_lastSave (s : State) : s.arbitrate.lastSave = s.lastSave := by unfold State.arbitrate; split <;> simp
@[simp] theorem arbitrate_startup (s : State) : s.arbitrate.startup = s.startup := by unfold State.arbitrate; split <;> simp
@[simp] theorem arbitrate_failedSlots (s : State) : s.arbitrate.failedSlots = s.failedSlots := by unfold State.arbitrate; split <;> simp
@[simp] theorem arbitrate_cutOffSlot (s : State) : s.arbitrate.cutOffSlot = s.cutOffSlot := by unfold State.arbitrate; split <;> simp
@[simp] theorem arbitrate_receiver (s : State) : s.arbitrate.receiver = s.receiver := by unfold State.arbitrate; split <;> simp
@[simp] theorem arbitrate_reception (s : State) : s.arbitrate.reception = s.reception := by unfold State.arbitrate; split <;> simp
@[simp] theorem arbitrate_inbound (s : State) : s.arbitrate.inbound = s.inbound := by unfold State.arbitrate; split <;> simp
@[simp] theorem arbitrate_replies (s : State) : s.arbitrate.replies = s.replies := by unfold State.arbitrate; split <;> simp
@[simp] theorem arbitrate_inHand (s : State) : s.arbitrate.inHand = s.inHand := by unfold State.arbitrate; split <;> simp
@[simp] theorem arbitrate_errorCounter (s : State) : s.arbitrate.errorCounter = s.errorCounter := by unfold State.arbitrate; split <;> simp
@[simp] theorem arbitrate_threshold (s : State) : s.arbitrate.threshold = s.threshold := by unfold State.arbitrate; split <;> simp
@[simp] theorem arbitrate_totals (s : State) : s.arbitrate.totals = s.totals := by unfold State.arbitrate; split <;> simp
@[simp] theorem arbitrate_quiet (s : State) : s.arbitrate.quiet = s.quiet := by unfold State.arbitrate; split <;> simp
@[simp] theorem arbitrate_straps (s : State) : s.arbitrate.straps = s.straps := by unfold State.arbitrate; split <;> simp
@[simp] theorem arbitrate_resetCause (s : State) : s.arbitrate.resetCause = s.resetCause := by unfold State.arbitrate; split <;> simp

/-! ### settle -/

@[simp] theorem settle_powered (s : State) : s.settle.powered = s.powered := by simp [State.settle]
@[simp] theorem settle_pending (s : State) : s.settle.pending = s.pending := by simp [State.settle]
@[simp] theorem settle_slots (s : State) : s.settle.slots = s.slots := by simp [State.settle]
@[simp] theorem settle_lanes (s : State) : s.settle.lanes = s.lanes := by simp [State.settle]
@[simp] theorem settle_records (s : State) : s.settle.records = s.records := by simp [State.settle]
@[simp] theorem settle_commitCount (s : State) : s.settle.commitCount = s.commitCount := by simp [State.settle]
@[simp] theorem settle_profiles (s : State) : s.settle.profiles = s.profiles := by simp [State.settle]
@[simp] theorem settle_store (s : State) : s.settle.store = s.store := by simp [State.settle]
@[simp] theorem settle_saving (s : State) : s.settle.saving = s.saving := by simp [State.settle]
@[simp] theorem settle_lastSave (s : State) : s.settle.lastSave = s.lastSave := by simp [State.settle]
@[simp] theorem settle_startup (s : State) : s.settle.startup = s.startup := by simp [State.settle]
@[simp] theorem settle_failedSlots (s : State) : s.settle.failedSlots = s.failedSlots := by simp [State.settle]
@[simp] theorem settle_cutOffSlot (s : State) : s.settle.cutOffSlot = s.cutOffSlot := by simp [State.settle]
@[simp] theorem settle_receiver (s : State) : s.settle.receiver = s.receiver := by simp [State.settle]
@[simp] theorem settle_reception (s : State) : s.settle.reception = s.reception := by simp [State.settle]
@[simp] theorem settle_inbound (s : State) : s.settle.inbound = s.inbound := by simp [State.settle]
@[simp] theorem settle_replies (s : State) : s.settle.replies = s.replies := by simp [State.settle]
@[simp] theorem settle_inHand (s : State) : s.settle.inHand = s.inHand := by simp [State.settle]
@[simp] theorem settle_errorCounter (s : State) : s.settle.errorCounter = s.errorCounter := by simp [State.settle]
@[simp] theorem settle_threshold (s : State) : s.settle.threshold = s.threshold := by simp [State.settle]
@[simp] theorem settle_totals (s : State) : s.settle.totals = s.totals := by simp [State.settle]
@[simp] theorem settle_quiet (s : State) : s.settle.quiet = s.quiet := by simp [State.settle]
@[simp] theorem settle_straps (s : State) : s.settle.straps = s.straps := by simp [State.settle]
@[simp] theorem settle_resetCause (s : State) : s.settle.resetCause = s.resetCause := by simp [State.settle]

/-! ### Reading back a context, a slot, a lane -/

@[simp] theorem job_setJob_same (s : State) (j : Fin 8) (v : Job) : (s.setJob j v).job j = v := by
  simp [State.setJob, State.job]

theorem job_setJob_ne (s : State) {i j : Fin 8} (v : Job) (h : i ≠ j) :
    (s.setJob j v).job i = s.job i := by
  have h' : ¬(j.val = i.val) := fun e => h (Fin.ext e.symm)
  simp [State.setJob, State.job, h']

theorem job_setJob (s : State) (i j : Fin 8) (v : Job) :
    (s.setJob j v).job i = if i = j then v else s.job i := by
  by_cases h : i = j
  · subst h; simp
  · simp [job_setJob_ne s v h, h]

theorem job_modifyJob (s : State) (i j : Fin 8) (f : Job → Job) :
    (s.modifyJob j f).job i = if i = j then f (s.job i) else s.job i := by
  unfold State.modifyJob
  rw [job_setJob]
  by_cases h : i = j
  · subst h; simp
  · simp [h]

@[simp] theorem job_mapJobs (s : State) (f : Fin 8 → Job → Job) (j : Fin 8) :
    (s.mapJobs f).job j = f j (s.job j) := by
  simp [State.mapJobs, State.job]

theorem slots_setSlot (s : State) (i k : Fin 24) (v : Option BandSlot) :
    (s.setSlot k v).slots[i] = if i = k then v else s.slots[i] := by
  by_cases h : i = k
  · subst h; simp [State.setSlot]
  · have h' : ¬(k.val = i.val) := fun e => h (Fin.ext e.symm)
    simp [State.setSlot, h', h]

theorem lanes_setLane (s : State) (i l : Fin 2) (v : Option PassState) :
    (s.setLane l v).lanes[i] = if i = l then v else s.lanes[i] := by
  by_cases h : i = l
  · subst h; simp [State.setLane]
  · have h' : ¬(l.val = i.val) := fun e => h (Fin.ext e.symm)
    simp [State.setLane, h', h]

@[simp] theorem slots_leaveAll (s : State) (j : Fin 8) (k : Fin 24) :
    (s.leaveAll j).slots[k] = leaveSlot j s.slots[k] := by
  simp [State.leaveAll]

@[simp] theorem post_replies (s : State) (kind unit : Byte) (code : ReplyCode) (data : List Byte) :
    (s.post kind unit code data).replies = s.replies ++ [replyFrame kind unit code data] := rfl

@[simp] theorem answer_replies (s : State) (f : Frame) (code : ReplyCode) (data : List Byte) :
    (s.answer f code data).replies = s.replies ++ [replyFrame f.kind f.unit code data] := rfl

theorem profiles_setContent (s : State) (i k : Fin 8) (c : ProfileContent) :
    (s.setContent k c).profiles[i] =
      if i = k then { s.profiles[i] with content := c } else s.profiles[i] := by
  by_cases h : i = k
  · subst h; simp [State.setContent]
  · have h' : ¬(k.val = i.val) := fun e => h (Fin.ext e.symm)
    simp [State.setContent, h', h]

/-! ### markState -/

@[simp] theorem markState_state (j : Job) : j.markState.state = j.state := by unfold Job.markState; split <;> rfl
@[simp] theorem markState_profile (j : Job) : j.markState.profile = j.profile := by unfold Job.markState; split <;> rfl
@[simp] theorem markState_width (j : Job) : j.markState.width = j.width := by unfold Job.markState; split <;> rfl
@[simp] theorem markState_height (j : Job) : j.markState.height = j.height := by unfold Job.markState; split <;> rfl
@[simp] theorem markState_columns (j : Job) : j.markState.columns = j.columns := by unfold Job.markState; split <;> rfl
@[simp] theorem markState_bands (j : Job) : j.markState.bands = j.bands := by unfold Job.markState; split <;> rfl
@[simp] theorem markState_budget (j : Job) : j.markState.budget = j.budget := by unfold Job.markState; split <;> rfl
@[simp] theorem markState_index (j : Job) : j.markState.index = j.index := by unfold Job.markState; split <;> rfl
@[simp] theorem markState_nextPass (j : Job) : j.markState.nextPass = j.nextPass := by unfold Job.markState; split <;> rfl
@[simp] theorem markState_priority (j : Job) : j.markState.priority = j.priority := by unfold Job.markState; split <;> rfl
@[simp] theorem markState_tag (j : Job) : j.markState.tag = j.tag := by unfold Job.markState; split <;> rfl
@[simp] theorem markState_mask (j : Job) : j.markState.mask = j.mask := by unfold Job.markState; split <;> rfl
@[simp] theorem markState_halts (j : Job) : j.markState.halts = j.halts := by unfold Job.markState; split <;> rfl
@[simp] theorem markState_causes (j : Job) : j.markState.causes = j.causes := by unfold Job.markState; split <;> rfl
@[simp] theorem markState_flags (j : Job) : j.markState.flags = j.flags := by unfold Job.markState; split <;> rfl
@[simp] theorem markState_noticeLevel (j : Job) : j.markState.noticeLevel = j.noticeLevel := by unfold Job.markState; split <;> rfl
@[simp] theorem markState_noticeKinds (j : Job) : j.markState.noticeKinds = j.noticeKinds := by unfold Job.markState; split <;> rfl
@[simp] theorem markState_timer (j : Job) : j.markState.timer = j.timer := by unfold Job.markState; split <;> rfl
@[simp] theorem markState_loaded (j : Job) : j.markState.loaded = j.loaded := by unfold Job.markState; split <;> rfl
@[simp] theorem markState_emitted (j : Job) : j.markState.emitted = j.emitted := by unfold Job.markState; split <;> rfl
@[simp] theorem markState_due (j : Job) : j.markState.due = j.due := by unfold Job.markState; split <;> rfl
@[simp] theorem markState_loading (j : Job) : j.markState.loading = j.loading := by unfold Job.markState; split <;> rfl
@[simp] theorem markState_ready (j : Job) : j.markState.ready = j.ready := by unfold Job.markState; split <;> rfl
@[simp] theorem markState_withheld (j : Job) : j.markState.withheld = j.withheld := by unfold Job.markState; split <;> rfl
@[simp] theorem markState_reservation (j : Job) : j.markState.reservation = j.reservation := by unfold Job.markState; split <;> rfl

/-! ### markCondition -/

@[simp] theorem markCondition_state (j : Job) : j.markCondition.state = j.state := by unfold Job.markCondition; split <;> rfl
@[simp] theorem markCondition_profile (j : Job) : j.markCondition.profile = j.profile := by unfold Job.markCondition; split <;> rfl
@[simp] theorem markCondition_width (j : Job) : j.markCondition.width = j.width := by unfold Job.markCondition; split <;> rfl
@[simp] theorem markCondition_height (j : Job) : j.markCondition.height = j.height := by unfold Job.markCondition; split <;> rfl
@[simp] theorem markCondition_columns (j : Job) : j.markCondition.columns = j.columns := by unfold Job.markCondition; split <;> rfl
@[simp] theorem markCondition_bands (j : Job) : j.markCondition.bands = j.bands := by unfold Job.markCondition; split <;> rfl
@[simp] theorem markCondition_budget (j : Job) : j.markCondition.budget = j.budget := by unfold Job.markCondition; split <;> rfl
@[simp] theorem markCondition_index (j : Job) : j.markCondition.index = j.index := by unfold Job.markCondition; split <;> rfl
@[simp] theorem markCondition_nextPass (j : Job) : j.markCondition.nextPass = j.nextPass := by unfold Job.markCondition; split <;> rfl
@[simp] theorem markCondition_priority (j : Job) : j.markCondition.priority = j.priority := by unfold Job.markCondition; split <;> rfl
@[simp] theorem markCondition_tag (j : Job) : j.markCondition.tag = j.tag := by unfold Job.markCondition; split <;> rfl
@[simp] theorem markCondition_mask (j : Job) : j.markCondition.mask = j.mask := by unfold Job.markCondition; split <;> rfl
@[simp] theorem markCondition_halts (j : Job) : j.markCondition.halts = j.halts := by unfold Job.markCondition; split <;> rfl
@[simp] theorem markCondition_causes (j : Job) : j.markCondition.causes = j.causes := by unfold Job.markCondition; split <;> rfl
@[simp] theorem markCondition_flags (j : Job) : j.markCondition.flags = j.flags := by unfold Job.markCondition; split <;> rfl
@[simp] theorem markCondition_noticeLevel (j : Job) : j.markCondition.noticeLevel = j.noticeLevel := by unfold Job.markCondition; split <;> rfl
@[simp] theorem markCondition_noticeKinds (j : Job) : j.markCondition.noticeKinds = j.noticeKinds := by unfold Job.markCondition; split <;> rfl
@[simp] theorem markCondition_timer (j : Job) : j.markCondition.timer = j.timer := by unfold Job.markCondition; split <;> rfl
@[simp] theorem markCondition_loaded (j : Job) : j.markCondition.loaded = j.loaded := by unfold Job.markCondition; split <;> rfl
@[simp] theorem markCondition_emitted (j : Job) : j.markCondition.emitted = j.emitted := by unfold Job.markCondition; split <;> rfl
@[simp] theorem markCondition_due (j : Job) : j.markCondition.due = j.due := by unfold Job.markCondition; split <;> rfl
@[simp] theorem markCondition_loading (j : Job) : j.markCondition.loading = j.loading := by unfold Job.markCondition; split <;> rfl
@[simp] theorem markCondition_ready (j : Job) : j.markCondition.ready = j.ready := by unfold Job.markCondition; split <;> rfl
@[simp] theorem markCondition_withheld (j : Job) : j.markCondition.withheld = j.withheld := by unfold Job.markCondition; split <;> rfl
@[simp] theorem markCondition_reservation (j : Job) : j.markCondition.reservation = j.reservation := by unfold Job.markCondition; split <;> rfl

/-! ### enter -/

@[simp] theorem enter_profile (j : Job) (st : JobState) : (j.enter st).profile = j.profile := by unfold Job.enter; split <;> simp
@[simp] theorem enter_width (j : Job) (st : JobState) : (j.enter st).width = j.width := by unfold Job.enter; split <;> simp
@[simp] theorem enter_height (j : Job) (st : JobState) : (j.enter st).height = j.height := by unfold Job.enter; split <;> simp
@[simp] theorem enter_columns (j : Job) (st : JobState) : (j.enter st).columns = j.columns := by unfold Job.enter; split <;> simp
@[simp] theorem enter_bands (j : Job) (st : JobState) : (j.enter st).bands = j.bands := by unfold Job.enter; split <;> simp
@[simp] theorem enter_budget (j : Job) (st : JobState) : (j.enter st).budget = j.budget := by unfold Job.enter; split <;> simp
@[simp] theorem enter_index (j : Job) (st : JobState) : (j.enter st).index = j.index := by unfold Job.enter; split <;> simp
@[simp] theorem enter_nextPass (j : Job) (st : JobState) : (j.enter st).nextPass = j.nextPass := by unfold Job.enter; split <;> simp
@[simp] theorem enter_priority (j : Job) (st : JobState) : (j.enter st).priority = j.priority := by unfold Job.enter; split <;> simp
@[simp] theorem enter_tag (j : Job) (st : JobState) : (j.enter st).tag = j.tag := by unfold Job.enter; split <;> simp
@[simp] theorem enter_mask (j : Job) (st : JobState) : (j.enter st).mask = j.mask := by unfold Job.enter; split <;> simp
@[simp] theorem enter_halts (j : Job) (st : JobState) : (j.enter st).halts = j.halts := by unfold Job.enter; split <;> simp
@[simp] theorem enter_causes (j : Job) (st : JobState) : (j.enter st).causes = j.causes := by unfold Job.enter; split <;> simp
@[simp] theorem enter_flags (j : Job) (st : JobState) : (j.enter st).flags = j.flags := by unfold Job.enter; split <;> simp
@[simp] theorem enter_noticeLevel (j : Job) (st : JobState) : (j.enter st).noticeLevel = j.noticeLevel := by unfold Job.enter; split <;> simp
@[simp] theorem enter_noticeKinds (j : Job) (st : JobState) : (j.enter st).noticeKinds = j.noticeKinds := by unfold Job.enter; split <;> simp
@[simp] theorem enter_timer (j : Job) (st : JobState) : (j.enter st).timer = j.timer := by unfold Job.enter; split <;> simp
@[simp] theorem enter_loaded (j : Job) (st : JobState) : (j.enter st).loaded = j.loaded := by unfold Job.enter; split <;> simp
@[simp] theorem enter_emitted (j : Job) (st : JobState) : (j.enter st).emitted = j.emitted := by unfold Job.enter; split <;> simp
@[simp] theorem enter_due (j : Job) (st : JobState) : (j.enter st).due = j.due := by unfold Job.enter; split <;> simp
@[simp] theorem enter_loading (j : Job) (st : JobState) : (j.enter st).loading = j.loading := by unfold Job.enter; split <;> simp
@[simp] theorem enter_ready (j : Job) (st : JobState) : (j.enter st).ready = j.ready := by unfold Job.enter; split <;> simp
@[simp] theorem enter_withheld (j : Job) (st : JobState) : (j.enter st).withheld = j.withheld := by unfold Job.enter; split <;> simp
@[simp] theorem enter_reservation (j : Job) (st : JobState) : (j.enter st).reservation = j.reservation := by unfold Job.enter; split <;> simp

/-! ### raise -/

@[simp] theorem raise_state (j : Job) (c : Condition) : (j.raise c).state = j.state := by simp [Job.raise]
@[simp] theorem raise_profile (j : Job) (c : Condition) : (j.raise c).profile = j.profile := by simp [Job.raise]
@[simp] theorem raise_width (j : Job) (c : Condition) : (j.raise c).width = j.width := by simp [Job.raise]
@[simp] theorem raise_height (j : Job) (c : Condition) : (j.raise c).height = j.height := by simp [Job.raise]
@[simp] theorem raise_columns (j : Job) (c : Condition) : (j.raise c).columns = j.columns := by simp [Job.raise]
@[simp] theorem raise_bands (j : Job) (c : Condition) : (j.raise c).bands = j.bands := by simp [Job.raise]
@[simp] theorem raise_budget (j : Job) (c : Condition) : (j.raise c).budget = j.budget := by simp [Job.raise]
@[simp] theorem raise_index (j : Job) (c : Condition) : (j.raise c).index = j.index := by simp [Job.raise]
@[simp] theorem raise_nextPass (j : Job) (c : Condition) : (j.raise c).nextPass = j.nextPass := by simp [Job.raise]
@[simp] theorem raise_priority (j : Job) (c : Condition) : (j.raise c).priority = j.priority := by simp [Job.raise]
@[simp] theorem raise_tag (j : Job) (c : Condition) : (j.raise c).tag = j.tag := by simp [Job.raise]
@[simp] theorem raise_mask (j : Job) (c : Condition) : (j.raise c).mask = j.mask := by simp [Job.raise]
@[simp] theorem raise_halts (j : Job) (c : Condition) : (j.raise c).halts = j.halts := by simp [Job.raise]
@[simp] theorem raise_noticeLevel (j : Job) (c : Condition) : (j.raise c).noticeLevel = j.noticeLevel := by simp [Job.raise]
@[simp] theorem raise_noticeKinds (j : Job) (c : Condition) : (j.raise c).noticeKinds = j.noticeKinds := by simp [Job.raise]
@[simp] theorem raise_timer (j : Job) (c : Condition) : (j.raise c).timer = j.timer := by simp [Job.raise]
@[simp] theorem raise_loaded (j : Job) (c : Condition) : (j.raise c).loaded = j.loaded := by simp [Job.raise]
@[simp] theorem raise_emitted (j : Job) (c : Condition) : (j.raise c).emitted = j.emitted := by simp [Job.raise]
@[simp] theorem raise_due (j : Job) (c : Condition) : (j.raise c).due = j.due := by simp [Job.raise]
@[simp] theorem raise_loading (j : Job) (c : Condition) : (j.raise c).loading = j.loading := by simp [Job.raise]
@[simp] theorem raise_ready (j : Job) (c : Condition) : (j.raise c).ready = j.ready := by simp [Job.raise]
@[simp] theorem raise_withheld (j : Job) (c : Condition) : (j.raise c).withheld = j.withheld := by simp [Job.raise]
@[simp] theorem raise_reservation (j : Job) (c : Condition) : (j.raise c).reservation = j.reservation := by simp [Job.raise]

/-! ### enterDone -/

@[simp] theorem enterDone_profile (j : Job) : j.enterDone.profile = j.profile := by simp [Job.enterDone]
@[simp] theorem enterDone_width (j : Job) : j.enterDone.width = j.width := by simp [Job.enterDone]
@[simp] theorem enterDone_height (j : Job) : j.enterDone.height = j.height := by simp [Job.enterDone]
@[simp] theorem enterDone_columns (j : Job) : j.enterDone.columns = j.columns := by simp [Job.enterDone]
@[simp] theorem enterDone_bands (j : Job) : j.enterDone.bands = j.bands := by simp [Job.enterDone]
@[simp] theorem enterDone_budget (j : Job) : j.enterDone.budget = j.budget := by simp [Job.enterDone]
@[simp] theorem enterDone_index (j : Job) : j.enterDone.index = j.index := by simp [Job.enterDone]
@[simp] theorem enterDone_nextPass (j : Job) : j.enterDone.nextPass = j.nextPass := by simp [Job.enterDone]
@[simp] theorem enterDone_priority (j : Job) : j.enterDone.priority = j.priority := by simp [Job.enterDone]
@[simp] theorem enterDone_tag (j : Job) : j.enterDone.tag = j.tag := by simp [Job.enterDone]
@[simp] theorem enterDone_mask (j : Job) : j.enterDone.mask = j.mask := by simp [Job.enterDone]
@[simp] theorem enterDone_halts (j : Job) : j.enterDone.halts = j.halts := by simp [Job.enterDone]
@[simp] theorem enterDone_causes (j : Job) : j.enterDone.causes = j.causes := by simp [Job.enterDone]
@[simp] theorem enterDone_flags (j : Job) : j.enterDone.flags = j.flags := by simp [Job.enterDone]
@[simp] theorem enterDone_noticeLevel (j : Job) : j.enterDone.noticeLevel = j.noticeLevel := by simp [Job.enterDone]
@[simp] theorem enterDone_noticeKinds (j : Job) : j.enterDone.noticeKinds = j.noticeKinds := by simp [Job.enterDone]
@[simp] theorem enterDone_loaded (j : Job) : j.enterDone.loaded = j.loaded := by simp [Job.enterDone]
@[simp] theorem enterDone_emitted (j : Job) : j.enterDone.emitted = j.emitted := by simp [Job.enterDone]
@[simp] theorem enterDone_due (j : Job) : j.enterDone.due = j.due := by simp [Job.enterDone]
@[simp] theorem enterDone_loading (j : Job) : j.enterDone.loading = j.loading := by simp [Job.enterDone]
@[simp] theorem enterDone_ready (j : Job) : j.enterDone.ready = j.ready := by simp [Job.enterDone]
@[simp] theorem enterDone_withheld (j : Job) : j.enterDone.withheld = j.withheld := by simp [Job.enterDone]
@[simp] theorem enterDone_reservation (j : Job) : j.enterDone.reservation = j.reservation := by simp [Job.enterDone]

/-! ### goOn -/

@[simp] theorem goOn_profile (j : Job) : j.goOn.profile = j.profile := by unfold Job.goOn; split <;> simp
@[simp] theorem goOn_width (j : Job) : j.goOn.width = j.width := by unfold Job.goOn; split <;> simp
@[simp] theorem goOn_height (j : Job) : j.goOn.height = j.height := by unfold Job.goOn; split <;> simp
@[simp] theorem goOn_columns (j : Job) : j.goOn.columns = j.columns := by unfold Job.goOn; split <;> simp
@[simp] theorem goOn_bands (j : Job) : j.goOn.bands = j.bands := by unfold Job.goOn; split <;> simp
@[simp] theorem goOn_budget (j : Job) : j.goOn.budget = j.budget := by unfold Job.goOn; split <;> simp
@[simp] theorem goOn_index (j : Job) : j.goOn.index = j.index := by unfold Job.goOn; split <;> simp
@[simp] theorem goOn_nextPass (j : Job) : j.goOn.nextPass = j.nextPass := by unfold Job.goOn; split <;> simp
@[simp] theorem goOn_priority (j : Job) : j.goOn.priority = j.priority := by unfold Job.goOn; split <;> simp
@[simp] theorem goOn_tag (j : Job) : j.goOn.tag = j.tag := by unfold Job.goOn; split <;> simp
@[simp] theorem goOn_mask (j : Job) : j.goOn.mask = j.mask := by unfold Job.goOn; split <;> simp
@[simp] theorem goOn_halts (j : Job) : j.goOn.halts = j.halts := by unfold Job.goOn; split <;> simp
@[simp] theorem goOn_causes (j : Job) : j.goOn.causes = j.causes := by unfold Job.goOn; split <;> simp
@[simp] theorem goOn_flags (j : Job) : j.goOn.flags = j.flags := by unfold Job.goOn; split <;> simp
@[simp] theorem goOn_noticeLevel (j : Job) : j.goOn.noticeLevel = j.noticeLevel := by unfold Job.goOn; split <;> simp
@[simp] theorem goOn_noticeKinds (j : Job) : j.goOn.noticeKinds = j.noticeKinds := by unfold Job.goOn; split <;> simp
@[simp] theorem goOn_loaded (j : Job) : j.goOn.loaded = j.loaded := by unfold Job.goOn; split <;> simp
@[simp] theorem goOn_emitted (j : Job) : j.goOn.emitted = j.emitted := by unfold Job.goOn; split <;> simp
@[simp] theorem goOn_due (j : Job) : j.goOn.due = j.due := by unfold Job.goOn; split <;> simp
@[simp] theorem goOn_loading (j : Job) : j.goOn.loading = j.loading := by unfold Job.goOn; split <;> simp
@[simp] theorem goOn_ready (j : Job) : j.goOn.ready = j.ready := by unfold Job.goOn; split <;> simp
@[simp] theorem goOn_withheld (j : Job) : j.goOn.withheld = j.withheld := by unfold Job.goOn; split <;> simp
@[simp] theorem goOn_reservation (j : Job) : j.goOn.reservation = j.reservation := by unfold Job.goOn; split <;> simp

/-! ### pause -/

@[simp] theorem pause_profile (j : Job) (b : Bool) : (j.pause b).profile = j.profile := by unfold Job.pause; (repeat' split) <;> simp
@[simp] theorem pause_width (j : Job) (b : Bool) : (j.pause b).width = j.width := by unfold Job.pause; (repeat' split) <;> simp
@[simp] theorem pause_height (j : Job) (b : Bool) : (j.pause b).height = j.height := by unfold Job.pause; (repeat' split) <;> simp
@[simp] theorem pause_columns (j : Job) (b : Bool) : (j.pause b).columns = j.columns := by unfold Job.pause; (repeat' split) <;> simp
@[simp] theorem pause_bands (j : Job) (b : Bool) : (j.pause b).bands = j.bands := by unfold Job.pause; (repeat' split) <;> simp
@[simp] theorem pause_budget (j : Job) (b : Bool) : (j.pause b).budget = j.budget := by unfold Job.pause; (repeat' split) <;> simp
@[simp] theorem pause_index (j : Job) (b : Bool) : (j.pause b).index = j.index := by unfold Job.pause; (repeat' split) <;> simp
@[simp] theorem pause_nextPass (j : Job) (b : Bool) : (j.pause b).nextPass = j.nextPass := by unfold Job.pause; (repeat' split) <;> simp
@[simp] theorem pause_priority (j : Job) (b : Bool) : (j.pause b).priority = j.priority := by unfold Job.pause; (repeat' split) <;> simp
@[simp] theorem pause_tag (j : Job) (b : Bool) : (j.pause b).tag = j.tag := by unfold Job.pause; (repeat' split) <;> simp
@[simp] theorem pause_mask (j : Job) (b : Bool) : (j.pause b).mask = j.mask := by unfold Job.pause; (repeat' split) <;> simp
@[simp] theorem pause_halts (j : Job) (b : Bool) : (j.pause b).halts = j.halts := by unfold Job.pause; (repeat' split) <;> simp
@[simp] theorem pause_causes (j : Job) (b : Bool) : (j.pause b).causes = j.causes := by unfold Job.pause; (repeat' split) <;> simp
@[simp] theorem pause_flags (j : Job) (b : Bool) : (j.pause b).flags = j.flags := by unfold Job.pause; (repeat' split) <;> simp
@[simp] theorem pause_noticeLevel (j : Job) (b : Bool) : (j.pause b).noticeLevel = j.noticeLevel := by unfold Job.pause; (repeat' split) <;> simp
@[simp] theorem pause_noticeKinds (j : Job) (b : Bool) : (j.pause b).noticeKinds = j.noticeKinds := by unfold Job.pause; (repeat' split) <;> simp
@[simp] theorem pause_timer (j : Job) (b : Bool) : (j.pause b).timer = j.timer := by unfold Job.pause; (repeat' split) <;> simp
@[simp] theorem pause_loaded (j : Job) (b : Bool) : (j.pause b).loaded = j.loaded := by unfold Job.pause; (repeat' split) <;> simp
@[simp] theorem pause_emitted (j : Job) (b : Bool) : (j.pause b).emitted = j.emitted := by unfold Job.pause; (repeat' split) <;> simp
@[simp] theorem pause_due (j : Job) (b : Bool) : (j.pause b).due = j.due := by unfold Job.pause; (repeat' split) <;> simp
@[simp] theorem pause_loading (j : Job) (b : Bool) : (j.pause b).loading = j.loading := by unfold Job.pause; (repeat' split) <;> simp
@[simp] theorem pause_ready (j : Job) (b : Bool) : (j.pause b).ready = j.ready := by unfold Job.pause; (repeat' split) <;> simp
@[simp] theorem pause_withheld (j : Job) (b : Bool) : (j.pause b).withheld = j.withheld := by unfold Job.pause; (repeat' split) <;> simp
@[simp] theorem pause_reservation (j : Job) (b : Bool) : (j.pause b).reservation = j.reservation := by unfold Job.pause; (repeat' split) <;> simp

/-! ### resume -/

@[simp] theorem resume_profile (j : Job) : j.resume.profile = j.profile := by unfold Job.resume; split <;> simp
@[simp] theorem resume_width (j : Job) : j.resume.width = j.width := by unfold Job.resume; split <;> simp
@[simp] theorem resume_height (j : Job) : j.resume.height = j.height := by unfold Job.resume; split <;> simp
@[simp] theorem resume_columns (j : Job) : j.resume.columns = j.columns := by unfold Job.resume; split <;> simp
@[simp] theorem resume_bands (j : Job) : j.resume.bands = j.bands := by unfold Job.resume; split <;> simp
@[simp] theorem resume_budget (j : Job) : j.resume.budget = j.budget := by unfold Job.resume; split <;> simp
@[simp] theorem resume_index (j : Job) : j.resume.index = j.index := by unfold Job.resume; split <;> simp
@[simp] theorem resume_nextPass (j : Job) : j.resume.nextPass = j.nextPass := by unfold Job.resume; split <;> simp
@[simp] theorem resume_priority (j : Job) : j.resume.priority = j.priority := by unfold Job.resume; split <;> simp
@[simp] theorem resume_tag (j : Job) : j.resume.tag = j.tag := by unfold Job.resume; split <;> simp
@[simp] theorem resume_mask (j : Job) : j.resume.mask = j.mask := by unfold Job.resume; split <;> simp
@[simp] theorem resume_halts (j : Job) : j.resume.halts = j.halts := by unfold Job.resume; split <;> simp
@[simp] theorem resume_causes (j : Job) : j.resume.causes = j.causes := by unfold Job.resume; split <;> simp
@[simp] theorem resume_flags (j : Job) : j.resume.flags = j.flags := by unfold Job.resume; split <;> simp
@[simp] theorem resume_noticeLevel (j : Job) : j.resume.noticeLevel = j.noticeLevel := by unfold Job.resume; split <;> simp
@[simp] theorem resume_noticeKinds (j : Job) : j.resume.noticeKinds = j.noticeKinds := by unfold Job.resume; split <;> simp
@[simp] theorem resume_loaded (j : Job) : j.resume.loaded = j.loaded := by unfold Job.resume; split <;> simp
@[simp] theorem resume_emitted (j : Job) : j.resume.emitted = j.emitted := by unfold Job.resume; split <;> simp
@[simp] theorem resume_due (j : Job) : j.resume.due = j.due := by unfold Job.resume; split <;> simp
@[simp] theorem resume_loading (j : Job) : j.resume.loading = j.loading := by unfold Job.resume; split <;> simp
@[simp] theorem resume_ready (j : Job) : j.resume.ready = j.ready := by unfold Job.resume; split <;> simp
@[simp] theorem resume_withheld (j : Job) : j.resume.withheld = j.withheld := by unfold Job.resume; split <;> simp
@[simp] theorem resume_reservation (j : Job) : j.resume.reservation = j.reservation := by unfold Job.resume; split <;> simp

/-! ### lateHalt -/

@[simp] theorem lateHalt_profile (j : Job) (b : Bool) : (j.lateHalt b).profile = j.profile := by unfold Job.lateHalt; (repeat' split) <;> simp
@[simp] theorem lateHalt_width (j : Job) (b : Bool) : (j.lateHalt b).width = j.width := by unfold Job.lateHalt; (repeat' split) <;> simp
@[simp] theorem lateHalt_height (j : Job) (b : Bool) : (j.lateHalt b).height = j.height := by unfold Job.lateHalt; (repeat' split) <;> simp
@[simp] theorem lateHalt_columns (j : Job) (b : Bool) : (j.lateHalt b).columns = j.columns := by unfold Job.lateHalt; (repeat' split) <;> simp
@[simp] theorem lateHalt_bands (j : Job) (b : Bool) : (j.lateHalt b).bands = j.bands := by unfold Job.lateHalt; (repeat' split) <;> simp
@[simp] theorem lateHalt_budget (j : Job) (b : Bool) : (j.lateHalt b).budget = j.budget := by unfold Job.lateHalt; (repeat' split) <;> simp
@[simp] theorem lateHalt_index (j : Job) (b : Bool) : (j.lateHalt b).index = j.index := by unfold Job.lateHalt; (repeat' split) <;> simp
@[simp] theorem lateHalt_nextPass (j : Job) (b : Bool) : (j.lateHalt b).nextPass = j.nextPass := by unfold Job.lateHalt; (repeat' split) <;> simp
@[simp] theorem lateHalt_priority (j : Job) (b : Bool) : (j.lateHalt b).priority = j.priority := by unfold Job.lateHalt; (repeat' split) <;> simp
@[simp] theorem lateHalt_tag (j : Job) (b : Bool) : (j.lateHalt b).tag = j.tag := by unfold Job.lateHalt; (repeat' split) <;> simp
@[simp] theorem lateHalt_mask (j : Job) (b : Bool) : (j.lateHalt b).mask = j.mask := by unfold Job.lateHalt; (repeat' split) <;> simp
@[simp] theorem lateHalt_halts (j : Job) (b : Bool) : (j.lateHalt b).halts = j.halts := by unfold Job.lateHalt; (repeat' split) <;> simp
@[simp] theorem lateHalt_causes (j : Job) (b : Bool) : (j.lateHalt b).causes = j.causes := by unfold Job.lateHalt; (repeat' split) <;> simp
@[simp] theorem lateHalt_flags (j : Job) (b : Bool) : (j.lateHalt b).flags = j.flags := by unfold Job.lateHalt; (repeat' split) <;> simp
@[simp] theorem lateHalt_noticeLevel (j : Job) (b : Bool) : (j.lateHalt b).noticeLevel = j.noticeLevel := by unfold Job.lateHalt; (repeat' split) <;> simp
@[simp] theorem lateHalt_noticeKinds (j : Job) (b : Bool) : (j.lateHalt b).noticeKinds = j.noticeKinds := by unfold Job.lateHalt; (repeat' split) <;> simp
@[simp] theorem lateHalt_timer (j : Job) (b : Bool) : (j.lateHalt b).timer = j.timer := by unfold Job.lateHalt; (repeat' split) <;> simp
@[simp] theorem lateHalt_loaded (j : Job) (b : Bool) : (j.lateHalt b).loaded = j.loaded := by unfold Job.lateHalt; (repeat' split) <;> simp
@[simp] theorem lateHalt_emitted (j : Job) (b : Bool) : (j.lateHalt b).emitted = j.emitted := by unfold Job.lateHalt; (repeat' split) <;> simp
@[simp] theorem lateHalt_due (j : Job) (b : Bool) : (j.lateHalt b).due = j.due := by unfold Job.lateHalt; (repeat' split) <;> simp
@[simp] theorem lateHalt_loading (j : Job) (b : Bool) : (j.lateHalt b).loading = j.loading := by unfold Job.lateHalt; (repeat' split) <;> simp
@[simp] theorem lateHalt_ready (j : Job) (b : Bool) : (j.lateHalt b).ready = j.ready := by unfold Job.lateHalt; (repeat' split) <;> simp
@[simp] theorem lateHalt_withheld (j : Job) (b : Bool) : (j.lateHalt b).withheld = j.withheld := by unfold Job.lateHalt; (repeat' split) <;> simp
@[simp] theorem lateHalt_reservation (j : Job) (b : Bool) : (j.lateHalt b).reservation = j.reservation := by unfold Job.lateHalt; (repeat' split) <;> simp

/-! ### raiseLate -/

@[simp] theorem raiseLate_profile (j : Job) (b : Bool) : (j.raiseLate b).profile = j.profile := by simp only [Job.raiseLate]; split <;> simp
@[simp] theorem raiseLate_width (j : Job) (b : Bool) : (j.raiseLate b).width = j.width := by simp only [Job.raiseLate]; split <;> simp
@[simp] theorem raiseLate_height (j : Job) (b : Bool) : (j.raiseLate b).height = j.height := by simp only [Job.raiseLate]; split <;> simp
@[simp] theorem raiseLate_columns (j : Job) (b : Bool) : (j.raiseLate b).columns = j.columns := by simp only [Job.raiseLate]; split <;> simp
@[simp] theorem raiseLate_bands (j : Job) (b : Bool) : (j.raiseLate b).bands = j.bands := by simp only [Job.raiseLate]; split <;> simp
@[simp] theorem raiseLate_budget (j : Job) (b : Bool) : (j.raiseLate b).budget = j.budget := by simp only [Job.raiseLate]; split <;> simp
@[simp] theorem raiseLate_index (j : Job) (b : Bool) : (j.raiseLate b).index = j.index := by simp only [Job.raiseLate]; split <;> simp
@[simp] theorem raiseLate_nextPass (j : Job) (b : Bool) : (j.raiseLate b).nextPass = j.nextPass := by simp only [Job.raiseLate]; split <;> simp
@[simp] theorem raiseLate_priority (j : Job) (b : Bool) : (j.raiseLate b).priority = j.priority := by simp only [Job.raiseLate]; split <;> simp
@[simp] theorem raiseLate_tag (j : Job) (b : Bool) : (j.raiseLate b).tag = j.tag := by simp only [Job.raiseLate]; split <;> simp
@[simp] theorem raiseLate_mask (j : Job) (b : Bool) : (j.raiseLate b).mask = j.mask := by simp only [Job.raiseLate]; split <;> simp
@[simp] theorem raiseLate_halts (j : Job) (b : Bool) : (j.raiseLate b).halts = j.halts := by simp only [Job.raiseLate]; split <;> simp
@[simp] theorem raiseLate_noticeLevel (j : Job) (b : Bool) : (j.raiseLate b).noticeLevel = j.noticeLevel := by simp only [Job.raiseLate]; split <;> simp
@[simp] theorem raiseLate_noticeKinds (j : Job) (b : Bool) : (j.raiseLate b).noticeKinds = j.noticeKinds := by simp only [Job.raiseLate]; split <;> simp
@[simp] theorem raiseLate_timer (j : Job) (b : Bool) : (j.raiseLate b).timer = j.timer := by simp only [Job.raiseLate]; split <;> simp
@[simp] theorem raiseLate_loaded (j : Job) (b : Bool) : (j.raiseLate b).loaded = j.loaded := by simp only [Job.raiseLate]; split <;> simp
@[simp] theorem raiseLate_emitted (j : Job) (b : Bool) : (j.raiseLate b).emitted = j.emitted := by simp only [Job.raiseLate]; split <;> simp
@[simp] theorem raiseLate_due (j : Job) (b : Bool) : (j.raiseLate b).due = j.due := by simp only [Job.raiseLate]; split <;> simp
@[simp] theorem raiseLate_loading (j : Job) (b : Bool) : (j.raiseLate b).loading = j.loading := by simp only [Job.raiseLate]; split <;> simp
@[simp] theorem raiseLate_ready (j : Job) (b : Bool) : (j.raiseLate b).ready = j.ready := by simp only [Job.raiseLate]; split <;> simp
@[simp] theorem raiseLate_withheld (j : Job) (b : Bool) : (j.raiseLate b).withheld = j.withheld := by simp only [Job.raiseLate]; split <;> simp
@[simp] theorem raiseLate_reservation (j : Job) (b : Bool) : (j.raiseLate b).reservation = j.reservation := by simp only [Job.raiseLate]; split <;> simp

@[simp] theorem enter_state (j : Job) (st : JobState) : (j.enter st).state = st := by
  unfold Job.enter; split
  · assumption
  · simp

@[simp] theorem raise_causes (j : Job) (c : Condition) : (j.raise c).causes = j.causes.add c := by
  simp [Job.raise]

@[simp] theorem raise_flags (j : Job) (c : Condition) : (j.raise c).flags = j.flags.add c := by
  simp [Job.raise]

@[simp] theorem enterDone_state (j : Job) : j.enterDone.state = .done := by
  simp [Job.enterDone]

theorem goOn_state (j : Job) :
    j.goOn.state = if j.emitted = j.bands then .done else .running := by
  unfold Job.goOn; split <;> simp

end Sys2Proof.Machine
end

