-- ==== Sys2Proof/Laws/Ops.lean ====
section
/-! SUPPORT. What each shared operation can do, said once: taking an event, the request decoder's row
forms, replies, leaving a slot, the commit, what settles, the bit stream. -/

namespace Sys2Proof.Machine
/- Proofs one after another: many at once run out of threads. -/
set_option Elab.async false

/-! ### Taking an event -/

/-- An event that is due, under power. -/
theorem occur_some {event : State → Option State} {s t : State} (hp : s.powered = true)
    (h : event s = some t) : occur event s = t.settle := by
  simp [occur, hp, h]

/-- An event that is not due. -/
theorem occur_none {event : State → Option State} {s : State} (h : event s = none) :
    occur event s = s := by
  unfold occur; split <;> simp [h]

/-- No event is taken without power. -/
theorem occur_unpowered (event : State → Option State) {s : State} (hp : s.powered = false) :
    occur event s = s := by
  simp [occur, hp]

/-- Every way an event can go. -/
theorem occur_cases (event : State → Option State) (s : State) :
    (s.powered = true ∧ ∃ t, event s = some t ∧ occur event s = t.settle) ∨ occur event s = s := by
  by_cases hp : s.powered = true
  · cases h : event s with
    | none => exact .inr (occur_none h)
    | some t => exact .inl ⟨hp, t, rfl, occur_some hp h⟩
  · exact .inr (occur_unpowered event (by simpa using hp))

/-! ### The request decoder (R159) -/

theorem decoderReady_iff (s : State) :
    s.decoderReady = true ↔
      s.powered = true ∧ s.startup = none ∧ s.inHand = .nothing ∧ s.replies.length < 16 := by
  unfold State.decoderReady
  rw [Bool.and_eq_true, Bool.and_eq_true, Bool.and_eq_true, decide_eq_true_iff, beq_iff_eq,
    Option.isNone_iff_eq_none, and_assoc, and_assoc]
  rfl

/-- What taking the head frame means when it happens. -/
theorem takeHead_eq_some {mine : Frame → Bool} {handle : Frame → State → State} {s t : State} :
    takeHead mine handle s = some t ↔
      s.decoderReady = true ∧ ∃ f rest, s.inbound = f :: rest ∧ mine f = true ∧
        t = handle f { s with inbound := rest } := by
  unfold takeHead
  by_cases hr : s.decoderReady = true
  · simp only [hr, if_true, true_and]
    cases s.inbound with
    | nil => simp
    | cons f rest =>
      by_cases hm : mine f = true
      · simp only [hm, if_true, Option.some.injEq, List.cons.injEq]
        constructor
        · rintro rfl; exact ⟨f, rest, ⟨rfl, rfl⟩, hm, rfl⟩
        · rintro ⟨_, _, ⟨rfl, rfl⟩, _, rfl⟩; rfl
      · simp only [hm, List.cons.injEq]
        constructor
        · intro h; cases h
        · rintro ⟨_, _, ⟨rfl, rfl⟩, h, _⟩; exact absurd h hm
  · simp [hr]

theorem index8_of_eq {n : Nat} {j : Fin 8} (h : n = j.val) : index8 n = some j := by
  subst h; simp [index8, j.isLt]

theorem index8_of_ge {n : Nat} (h : 8 ≤ n) : index8 n = none := by
  simp [index8, Nat.not_lt.mpr h]

/-- A row whose frame is at the head runs its handler and settles. -/
theorem row_taken {mine : Frame → Bool} {handle : Frame → State → State} {s : State} {f : Frame}
    {rest : List Frame} (hr : s.decoderReady = true) (hh : s.inbound = f :: rest)
    (hm : mine f = true) :
    occur (takeHead mine handle) s = (handle f { s with inbound := rest }).settle :=
  occur_some ((decoderReady_iff s).mp hr).1
    (takeHead_eq_some.mpr ⟨hr, f, rest, hh, hm, rfl⟩)

/-- A device request in order. -/
theorem device_row {kind : Byte} {length : Nat} {owner : Frame → State → State} {s : State}
    {f : Frame} {rest : List Frame} (h : Taking s f rest kind length) (hu : f.unit = 0) :
    occur (takeHead (isKind kind) (deviceRequest length owner)) s =
      (owner f { s with inbound := rest }).settle := by
  rw [row_taken h.ready h.head (by simp [isKind, h.kind])]
  simp [deviceRequest, withLength, h.size, hu]

/-- A job request in order. -/
theorem job_row {kind : Byte} {length : Nat} {ok : Nat → Bool}
    {owner : Fin 8 → Frame → State → State} {s : State} {f : Frame} {rest : List Frame} {j : Fin 8}
    (h : Taking s f rest kind length) (hok : ok length = true) (hu : f.unit.toNat = j.val) :
    occur (takeHead (isKind kind) (jobRequest ok owner)) s =
      (owner j f { s with inbound := rest }).settle := by
  rw [row_taken h.ready h.head (by simp [isKind, h.kind])]
  simp [jobRequest, withLength, h.size, hok, index8_of_eq hu]

/-- A profile request in order. -/
theorem profile_row {kind : Byte} {length : Nat} {ok : Nat → Bool}
    {owner : Fin 8 → Frame → State → State} {s : State} {f : Frame} {rest : List Frame} {k : Fin 8}
    (h : Taking s f rest kind length) (hok : ok length = true) (hu : f.unit.toNat = k.val) :
    occur (takeHead (isKind kind) (profileRequest ok owner)) s =
      (owner k f { s with inbound := rest }).settle := by
  rw [row_taken h.ready h.head (by simp [isKind, h.kind])]
  simp [profileRequest, withLength, h.size, hok, index8_of_eq hu]

/-- The reply a request posts, as the statements write it. -/
theorem answer_eq_took (s : State) (rest : List Frame) (f : Frame) (code : ReplyCode)
    (data : List Byte) :
    State.answer { s with inbound := rest } f code data =
      s.took rest (replyTo f code.value data) := rfl

/-! ### Marks (R82) -/

theorem enter_eq_moved {j : Job} {st : JobState} (h : j.state ≠ st) : j.enter st = j.moved st := by
  unfold Job.enter Job.markState Job.moved stateNoted
  by_cases hl : j.noticeLevel = 0 <;> by_cases hk : j.noticeKinds.state = true <;>
    simp [h, hl, hk, Nat.one_le_iff_ne_zero]

theorem enter_self {j : Job} {st : JobState} (h : j.state = st) : j.enter st = j := by
  simp [Job.enter, h]

/-- A LATE as the statements write it (R116, R120). -/
theorem raiseLate_eq (j : Job) (b : Bool) : j.raiseLate b = lateRaised j b := by
  unfold Job.raiseLate lateRaised Job.raise Job.markCondition
  by_cases hl : j.noticeLevel = 0 <;> by_cases hk : j.noticeKinds.condition = true <;>
  by_cases ht : j.noticeKinds.state = true <;> by_cases hh : j.halts.late = true <;>
    (rcases hs : j.state with _ | _ | _ | r | _ | _ | _ <;> try cases r) <;> cases b <;>
    simp [hl, hk, ht, hh, Job.lateHalt, lateState, conditionNoted, stateNoted, Job.enter,
      Job.markState, Job.moved, Conditions.add, Nat.one_le_iff_ne_zero]

/-! ### Expiries and ticks (R132, R134, R135) -/

theorem lateRaised_timer (j : Job) (b : Bool) : (lateRaised j b).timer = j.timer := by
  unfold lateRaised; simp only; split <;> rfl

theorem lateRaised_due (j : Job) (b : Bool) : (lateRaised j b).due = j.due := by
  unfold lateRaised; simp only; split <;> rfl

theorem lateRaised_bands (j : Job) (b : Bool) : (lateRaised j b).bands = j.bands := by
  unfold lateRaised; simp only; split <;> rfl

theorem afterPaced_eq (t : Timer) (due bands : Nat) :
    t.afterPaced (due == bands) = pacedTimer t due bands := by
  unfold Timer.afterPaced pacedTimer Timer.load Timer.finished Timer.began
  cases t.buffered <;> by_cases hd : due = bands <;> simp [hd]

/-- A PACED expiry as the statements write it. -/
theorem pacedExpiry_eq (j : Job) (b : Bool) : j.pacedExpiry b = pacedExpired j b := by
  unfold Job.pacedExpiry pacedExpired dueRaised
  simp only [raiseLate_eq]
  by_cases h : j.emitted < j.due + 1
  · simp only [h, if_true]
    rw [lateRaised_timer, lateRaised_due, lateRaised_bands, afterPaced_eq]
  · simp only [h, if_false, afterPaced_eq]

/-- A PAGE expiry as the statements write it. -/
theorem pageExpiry_eq (j : Job) (b : Bool) : j.pageExpiry b = pageExpired j b := by
  unfold Job.pageExpiry pageExpired dueRaised
  simp only [raiseLate_eq]
  by_cases h : j.emitted < j.bands
  · simp only [h, if_true]; rw [lateRaised_timer]; rfl
  · simp only [h, if_false]; rfl

/-- A base tick as the statements write it. -/
theorem baseTick_eq (j : Job) (b : Bool) : j.baseTick b = ticked j b := by
  unfold Job.baseTick ticked Job.prescaledTick Timer.expiresNext
  simp only [pacedExpiry_eq, pageExpiry_eq]
  cases hr : j.timer.running <;> simp
  split
  · rfl
  · by_cases hc : j.timer.count = 1 <;> simp [hc] <;> rfl

/-! ### The profile store (R148) -/

/-- The settings of a PROFILE READ reply, as the statements write them. -/
theorem report_eq (p : Profile) : p.report = settingsBytes p := by
  simp only [settingsBytes, Profile.report, BaseSteps.report, ZoneSettings.report,
    Profile.thresholdsReport, signedBytes, Profile.nameReport, List.flatMap_cons, List.flatMap_nil,
    List.append_assoc, List.cons_append, List.nil_append, List.append_nil]

theorem crc_eq (p : Profile) : p.crc = crc16 (settingsBytes p) := by rw [← report_eq]; rfl

/-- The CRC left in a broken record is not that of its contents. -/
theorem not_self_ne : ∀ c : BitVec 16, ~~~c ≠ c := by
  intro c h
  have := congrArg (·.getLsbD 0) h
  simp at this

/-- A write that failed or was cut off leaves a record that fails its check. -/
theorem recordBroken_fails (old : StoreRecord) (p : Profile) : (recordBroken old p).Fails := by
  refine ⟨_, _, rfl, ?_⟩
  rw [← crc_eq]
  split
  · rename_i h; rw [h]; exact not_self_ne _
  · assumption

/-- Every record a write can leave. -/
theorem recordAfterWrite_spec (old : StoreRecord) (p : Profile) (passes : Bool) :
    (passes = true → recordAfterWrite old p passes = .written p (crc16 (settingsBytes p))) ∧
    (passes = false → (recordAfterWrite old p passes).Fails) := by
  refine ⟨fun h => ?_, fun h => ?_⟩
  · rw [recordAfterWrite, if_pos h, recordWritten, crc_eq]
  · rw [recordAfterWrite, if_neg (by simp [h])]; exact recordBroken_fails old p

/-- The records after one has been replaced. -/
theorem setRecord_record (s : State) (k i : Fin 8) (r : StoreRecord) (hk : k ≠ 0) :
    (s.setRecord k r).record i = if i = k then r else s.record i := by
  have h1 : 1 ≤ k.val := Nat.one_le_iff_ne_zero.mpr fun h => hk (Fin.ext h)
  unfold State.setRecord State.record
  simp only [h1, dif_pos]
  by_cases hi : 1 ≤ i.val
  · simp only [hi, dif_pos, Vector.getElem_set]
    by_cases hik : i = k
    · simp [hik]
    · have : k.val - 1 ≠ i.val - 1 := fun h => hik (Fin.ext (by omega))
      simp [this, hik]
  · have : i ≠ k := fun h => hi (h ▸ h1)
    simp [hi, this]

/-- What a cut-off leaves in the store. -/
theorem cutOffWrite_store (s : State) : storeAfterCut s s.cutOffWrite := by
  intro k hk
  unfold State.cutOffWrite
  cases hs : s.saving with
  | none => exact ⟨nofun, fun _ => rfl⟩
  | some w =>
    have e : ∀ t : State, (State.record { t with saving := none } k) = t.record k := fun _ => rfl
    by_cases h0 : w.slot = 0
    · refine ⟨?_, fun _ => ?_⟩
      · rintro _ ⟨⟩ rfl; exact absurd h0 hk
      · simp only [e]; unfold State.setRecord; simp [h0]
    · constructor
      · rintro _ ⟨⟩ rfl
        simp only [e, setRecord_record _ _ _ _ h0, if_true]; exact recordBroken_fails _ _
      · intro h
        simp only [e, setRecord_record _ _ _ _ h0]
        rw [if_neg (fun h' => h w rfl h'.symm)]

/-- Every way a read can go. -/
theorem readRecord_cases (r : StoreRecord) (passes : Bool) :
    (r = .blank ∧ readRecord r passes = .blank) ∨
    (∃ p, r.reads passes = some p ∧ readRecord r passes = .contents p true) ∨
    (∃ p, r ≠ .blank ∧ r.reads passes = none ∧ readRecord r passes = .contents p false) := by
  cases r with
  | blank => exact .inl ⟨rfl, rfl⟩
  | written p crc =>
    refine .inr ?_
    by_cases h : passes = true ∧ crc = crc16 (settingsBytes p)
    · exact .inl ⟨p, by simp [StoreRecord.reads, h], by simp [readRecord, crc_eq, h]⟩
    · refine .inr ⟨p, nofun, by simp only [StoreRecord.reads, if_neg h], ?_⟩
      simp only [readRecord, crc_eq, ReadResult.contents.injEq, true_and]
      simpa using h

/-! ### The line (R164) -/

@[simp] theorem characterBits_length (b : Byte) : (characterBits b).length = 10 := by
  simp [characterBits, dataBits]

@[simp] theorem lineBits_length (f : Frame) : f.lineBits.length = 10 * f.bytes.length := by
  rw [Frame.lineBits, List.length_flatMap]
  simp [Nat.mul_comm]

/-- The ten bits of each character of a frame, in their place on the line. -/
theorem lineBits_getElem? {f : Frame} {i : Nat} {b : Byte} (h : f.bytes[i]? = some b) {n : Nat}
    (hn : n < 10) : f.lineBits[10 * i + n]? = (characterBits b)[n]? := by
  unfold Frame.lineBits
  generalize f.bytes = l at h
  induction l generalizing i with
  | nil => cases h
  | cons x xs ih =>
    cases i with
    | zero =>
      simp only [List.getElem?_cons_zero, Option.some.injEq] at h
      simp [h, List.flatMap_cons, List.getElem?_append, hn]
    | succ i =>
      rw [List.flatMap_cons, show 10 * (i + 1) + n = 10 + (10 * i + n) by omega,
        List.getElem?_append_right (by rw [characterBits_length]; omega), characterBits_length]
      simpa using ih h

/-- The data bits of a sent character are its byte. -/
theorem flagByte_dataBits : ∀ b : Byte, flagByte (dataBits b) = b := by decide +kernel

/-! ### Slots (R95) -/

/-- A set without a member it holds is empty exactly when that was its only one. -/
theorem refs_without_eq_zero : ∀ (j : Fin 8) (r : BitVec 8), r.getLsbD j.val = true →
    (r &&& ~~~(1#8 <<< j.val) = 0 ↔ r = 1#8 <<< j.val) := by
  decide +kernel

/-- Leaving a slot, as the statements write it. -/
theorem leaveSlot_eq (j : Fin 8) (o : Option BandSlot) : leaveSlot j o = slotWithout j o := by
  cases o with
  | none => rfl
  | some b =>
    simp only [leaveSlot, slotWithout, JobSet.has, jobBit]
    by_cases h : b.refs.getLsbD j.val = true
    · simp only [h, if_true, refs_without_eq_zero j b.refs h, Bool.true_eq_false, if_false]
    · simp only [h, if_false, Bool.false_eq_true, if_true]

end Sys2Proof.Machine
end

