-- ==== Sys2Proof/Laws/PerInstr.lean ====
section
/-! SUPPORT. One lemma per constructor of Instr for the family RequestKinds: the kind code of the frames
a request row takes is one of the table's request kinds, and none the part itself sends (R159, R169). -/

namespace Sys2Proof.Laws
/- Proofs one after another: many at once run out of threads. -/
set_option Elab.async false

/-- The kind code of a request row is a request kind, below the kinds of REPLY, NOTICE and OUTPUT. -/
def RequestKinds.Statement (i : Instr) : Prop :=
  ∀ k, Machine.requestKind i = some k → k ∈ Machine.requestKinds ∧ k.toNat < 0x80

theorem RequestKinds.powerOnReset (straps : Straps) : RequestKinds.Statement (.powerOnReset straps) := nofun
theorem RequestKinds.pinReset (straps : Straps) : RequestKinds.Statement (.pinReset straps) := nofun
theorem RequestKinds.recordRead (passes : Bool) : RequestKinds.Statement (.recordRead passes) := nofun
theorem RequestKinds.saveCompletion (passes : Bool) : RequestKinds.Statement (.saveCompletion passes) := nofun
theorem RequestKinds.breakCharacter : RequestKinds.Statement .breakCharacter := nofun
theorem RequestKinds.frameClose : RequestKinds.Statement .frameClose := nofun
theorem RequestKinds.unknownKind : RequestKinds.Statement .unknownKind := nofun
theorem RequestKinds.inquire : RequestKinds.Statement .inquire := by
  rintro _ ⟨⟩; decide
theorem RequestKinds.softReset : RequestKinds.Statement .softReset := by
  rintro _ ⟨⟩; decide
theorem RequestKinds.softResetEvent : RequestKinds.Statement .softResetEvent := nofun
theorem RequestKinds.linkSet : RequestKinds.Statement .linkSet := by
  rintro _ ⟨⟩; decide
theorem RequestKinds.linkClear : RequestKinds.Statement .linkClear := by
  rintro _ ⟨⟩; decide
theorem RequestKinds.linkStatus : RequestKinds.Statement .linkStatus := by
  rintro _ ⟨⟩; decide
theorem RequestKinds.profileWrite : RequestKinds.Statement .profileWrite := by
  rintro _ ⟨⟩; decide
theorem RequestKinds.profileCommit : RequestKinds.Statement .profileCommit := by
  rintro _ ⟨⟩; decide
theorem RequestKinds.profileRead : RequestKinds.Statement .profileRead := by
  rintro _ ⟨⟩; decide
theorem RequestKinds.profileSave : RequestKinds.Statement .profileSave := by
  rintro _ ⟨⟩; decide
theorem RequestKinds.profileRecall : RequestKinds.Statement .profileRecall := by
  rintro _ ⟨⟩; decide
theorem RequestKinds.jobOpen : RequestKinds.Statement .jobOpen := by
  rintro _ ⟨⟩; decide
theorem RequestKinds.jobStart : RequestKinds.Statement .jobStart := by
  rintro _ ⟨⟩; decide
theorem RequestKinds.jobPause : RequestKinds.Statement .jobPause := by
  rintro _ ⟨⟩; decide
theorem RequestKinds.jobResume : RequestKinds.Statement .jobResume := by
  rintro _ ⟨⟩; decide
theorem RequestKinds.accept : RequestKinds.Statement .accept := by
  rintro _ ⟨⟩; decide
theorem RequestKinds.retry : RequestKinds.Statement .retry := by
  rintro _ ⟨⟩; decide
theorem RequestKinds.degrade : RequestKinds.Statement .degrade := by
  rintro _ ⟨⟩; decide
theorem RequestKinds.drop : RequestKinds.Statement .drop := by
  rintro _ ⟨⟩; decide
theorem RequestKinds.continueJob : RequestKinds.Statement .continueJob := by
  rintro _ ⟨⟩; decide
theorem RequestKinds.jobAbort : RequestKinds.Statement .jobAbort := by
  rintro _ ⟨⟩; decide
theorem RequestKinds.jobClose : RequestKinds.Statement .jobClose := by
  rintro _ ⟨⟩; decide
theorem RequestKinds.jobStatus : RequestKinds.Statement .jobStatus := by
  rintro _ ⟨⟩; decide
theorem RequestKinds.clearFlags : RequestKinds.Statement .clearFlags := by
  rintro _ ⟨⟩; decide
theorem RequestKinds.setEnables : RequestKinds.Statement .setEnables := by
  rintro _ ⟨⟩; decide
theorem RequestKinds.retime : RequestKinds.Statement .retime := by
  rintro _ ⟨⟩; decide
theorem RequestKinds.pixels : RequestKinds.Statement .pixels := by
  rintro _ ⟨⟩; decide
theorem RequestKinds.pixelsWriteComplete : RequestKinds.Statement .pixelsWriteComplete := nofun
theorem RequestKinds.grant : RequestKinds.Statement .grant := nofun
theorem RequestKinds.columnEvent (lane : Fin 2) : RequestKinds.Statement (.columnEvent lane) := nofun
theorem RequestKinds.pacedExpiry (job : Fin 8) : RequestKinds.Statement (.pacedExpiry job) := nofun
theorem RequestKinds.pageExpiry (job : Fin 8) : RequestKinds.Statement (.pageExpiry job) := nofun
theorem RequestKinds.transmitEnd : RequestKinds.Statement .transmitEnd := nofun
theorem RequestKinds.character (samples : CharacterSamples) : RequestKinds.Statement (.character samples) := nofun
theorem RequestKinds.returnToMark : RequestKinds.Statement .returnToMark := nofun
theorem RequestKinds.prescaledTick (job : Fin 8) : RequestKinds.Statement (.prescaledTick job) := nofun
theorem RequestKinds.lossOfPower : RequestKinds.Statement .lossOfPower := nofun

end Sys2Proof.Laws
end

