-- ==== Sys2Proof/Tests/Slice0.lean ====
section
/-! SUPPORT. Tests. First the smoke test of WellFormed and the manual's worked examples, each with its
place in spec/; then one witness or more for every statement that has hypotheses: a concrete state and
operands that meet them together, a clause at a time where it has several. -/

namespace Sys2Proof.Tests
/- Proofs one after another: many kernel evaluations at once run out of threads. -/
set_option Elab.async false
open Machine

/-! ### WellFormed -/

/-- Thirty samples at space: a break, which CHARACTER may not spell. -/
def breakSamples : CharacterSamples :=
  Vector.replicate 10 { quarter := false, half := false, threeQuarters := false }

/-- A bit of this value whose samples agree. -/
def clean (b : Bool) : BitSamples := { quarter := b, half := b, threeQuarters := b }

/-- Start bit, 0x41 least significant bit first, stop bit. -/
def letterA : CharacterSamples :=
  #v[clean false, clean true, clean false, clean false, clean false, clean false, clean false,
    clean true, clean false, clean true]

/-- WellFormed refuses the ill-formed term: a CHARACTER that spells a break. -/
theorem test_wellFormed_refuses_break : (Instr.character breakSamples).WellFormed = false := by decide

theorem test_wellFormed_takes_letter : (Instr.character letterA).WellFormed = true := by decide

/-- No word spells a command: the table gives its rows no bits. -/
theorem test_no_word_decodes : decodeTableWord 8 0x01 = none := rfl

/-! ### The link: CRC and characters (R154, R157) -/

/-- The published check value of the CRC that R157 describes (PRESUMED: from outside the spec). -/
theorem test_crc_check_value :
    crc16 [0x31, 0x32, 0x33, 0x34, 0x35, 0x36, 0x37, 0x38, 0x39] = 0x29B1 := by decide +kernel

theorem test_character_data : characterOutcome letterA = .good 0x41 := by decide

theorem test_character_break : characterOutcome breakSamples = .breakCharacter := by decide

/-- R154: two samples of three decide a bit, and the third makes the character noisy. -/
theorem test_character_noise :
    let c := letterA.set 1 { quarter := true, half := false, threeQuarters := true }
    characterOutcome c = .good 0x41 ∧ characterNoisy c = true := by decide

/-! ### Tile arithmetic (spec/01, worked tiles) -/

/-- A pixel. -/
def pixel (r g b : Byte) : Rgb := { r, g, b }

/-- A neutral row. -/
def grey (row : List Byte) : List Rgb := row.map fun n => pixel n n n

/-- The flat white of spec/01. -/
def white : List (List Rgb) := List.replicate 8 (List.replicate 8 (pixel 230 214 205))

/-- The lace on white of spec/01. -/
def lace : List (List Rgb) :=
  (List.replicate 4
    [grey [250, 218, 250, 218, 246, 246, 226, 242],
      grey [238, 238, 234, 222, 250, 222, 238, 238]]).flatten

/-- The checkerboard of spec/01 that clips. -/
def checkerboard : List (List Rgb) :=
  let a := pixel 0 0 255
  let b := pixel 0 255 0
  (List.replicate 4 [[a, b, a, b, a, b, a, b], [b, a, b, a, b, a, b, a]]).flatten

/-- A component with no AC level. -/
def dcOnly (dc : Int) : ComponentLevels := { dc, ac := List.replicate 63 0 }

/-- spec/01, a flat white: zone, DC levels, no AC level. -/
theorem test_white_levels :
    tileLevels factoryProfile .one 16 white =
      { zone := .brightFlat, y := dcOnly 215, u := dcOnly (-5), v := dcOnly 8 } := by
  decide +kernel

/-- spec/01, lace on white, pass 1 at S = 16: the row of levels of each quadrant. -/
theorem test_lace_levels :
    (tileLevels factoryProfile .one 16 lace).zone = .brightDetail ∧
    (tileLevels factoryProfile .one 16 lace).y.dc = 235 ∧
    (tileLevels factoryProfile .one 16 lace).y.ac =
      [-1, 0, 0] ++ [1, 1, 1, 1] ++ List.replicate 8 0 ++
      (List.replicate 4 [2, 3, 2, -1]).flatten ++ (List.replicate 4 [-1, 1, 1, -1]).flatten ++
      (List.replicate 4 [4, 3, -4, -2]).flatten := by
  decide +kernel

/-- spec/01, lace on white: nonzero AC levels in pass 1 at S = 16 and 40, and in pass 2 at 40. -/
theorem test_lace_counts :
    nonzeroCount (tileLevels factoryProfile .one 16 lace).y.ac = 53 ∧
    nonzeroCount (tileLevels factoryProfile .one 40 lace).y.ac = 45 ∧
    nonzeroCount (tileLevels factoryProfile .two 40 lace).y.ac = 37 := by
  decide +kernel

/-- spec/01, a tile that clips: U and V HH1 clamped to 255, Y HH1 level -16. -/
theorem test_checkerboard_clips :
    let p := { factoryProfile with c := { factoryProfile.c with s1 := 1 } }
    tileClips p .one 0 checkerboard = true ∧
    (tileLevels p .one 0 checkerboard).u.ac.drop 47 = List.replicate 16 255 ∧
    (tileLevels p .one 0 checkerboard).v.dc = -64 ∧
    (tileLevels p .one 0 checkerboard).y.ac.drop 47 = List.replicate 16 (-16) := by
  decide +kernel

/-! ### The coded band (spec/02, worked bit counts) -/

/-- spec/02: UEG0(429) is eight zeros and the nine bits of 430. -/
theorem test_ueg0 :
    ueg0 429 = [false, false, false, false, false, false, false, false,
      true, true, false, true, false, true, true, true, false] := by
  decide +kernel

/-- spec/02: the flat white takes 39 bits as the first tile of a pass, and 9 after itself. -/
theorem test_white_bits :
    let t := tileLevels factoryProfile .one 16 white
    (tileBits {} t).length = 39 ∧ (tileBits (predictorsAfter t) t).length = 9 := by
  decide +kernel

/-! ### Rate control (spec/03) -/

/-- spec/03, the per-column update at B = 6,000, K = 100, after column 9. -/
theorem test_update_after_column_nine :
    [5800, 5500, 4800, 3900, 3700].map
      (fun bits => updateIndex 30 (columnError 6000 100 9 bits) (tolerance 6000 100)) =
      [32, 31, 30, 30, 29] := by
  decide

/-- spec/01, geometry examples: K, N and h_last. -/
theorem test_geometry :
    [(13, 40), (5000, 7000), (8192, 65535), (1, 1)].map
      (fun (w, h) => (columnsOf w, bandsOf h, rowsOfBand h (bandsOf h) (bandsOf h - 1))) =
      [(2, 3, 8), (625, 438, 8), (1024, 4096, 15), (1, 1, 1)] := by
  decide

/-! ### States the witnesses share -/

/-- A frame. -/
def frame (kind unit : Byte) (payload : List Byte) : Frame := { kind, unit, payload }

/-- The part with its start-up load over. -/
def part : State := { State.reset with startup := none }

/-- A state with one frame waiting. -/
def ask (s : State) (kind unit : Byte) (payload : List Byte) : State :=
  { s with inbound := [frame kind unit payload] }

/-- The decoder of a ready part takes the frame that waits. -/
theorem taking {s : State} (kind unit : Byte) (payload : List Byte) (h : s.decoderReady = true) :
    Taking (ask s kind unit payload) (frame kind unit payload) [] kind payload.length :=
  ⟨h, rfl, rfl, rfl⟩

/-- A context opened for a page of 8 by 20 pixels: one column, two bands, four rows in the last. -/
def small : Job :=
  { freeJob with
    state := .opened, profile := some 0, width := 8, height := 20, columns := 1, bands := 2,
    budget := 256, index := 16, tag := 0x010, mask := 0xFFF }

/-- The part with context 3 as given. -/
def withJob (j : Job) : State := part.setJob 3 j

/-- A FULL band of flat white for job 3. -/
def band0 : BandSlot where
  full := true
  tag := 0x010
  band := 0
  width := 8
  rowsNeeded := 16
  rows := List.replicate 16 (List.replicate 8 { r := 230, g := 214, b := 205 })
  refs := 0x08

/-- Space for job 3's record. -/
def space : Reservation := { size := 272, area := [] }

/-- Lane 0 codes band 0, in slot 0, of job 3. -/
def busyWith (j : Job) : State :=
  { withJob { j with loaded := 1, reservation := some space } with
    slots := part.slots.set 0 (some band0)
    lanes := part.lanes.set 0 (some (beginPass 3 0 0 .one 16)) }

/-- Job 3 is RUNNING with a pass in flight. -/
def busy : State := busyWith { small with state := .running }

/-- A withheld band that fits. -/
def held : Withheld where
  slot := 0
  band := 0
  pass := .one
  complete := true
  fits := true
  stored := 6
  startIndex := 16
  clippedMark := false

/-- Job 3 is HALTED with the withheld band given. -/
def haltedWith (w : Option Withheld) : State :=
  { withJob { small with
      state := .halted, loaded := 1, withheld := w
      reservation := w.map fun _ => { size := 272, area := [1, 2, 3, 4, 5, 6] } } with
    slots := part.slots.set 0 (some band0) }

/-- The state a command answers. -/
def after (c : Instr) (s : State) : State :=
  match exec c s with
  | .next t => t
  | .fault f => nomatch f
  | .refused _ => s

/-! ### Every command, once, on a small state -/

/-- R71, R133: START makes the OPEN job RUNNING; a PACED timer begins its first interval. -/
theorem test_start :
    let t := after .jobStart (ask (withJob { small with
      timer := { idleTimer with mode := .paced, interval := { reload := 500, prescale := .by16 } } })
      0x21 3 [])
    (t.job 3).state = .running ∧ (t.job 3).timer.count = 500 ∧ (t.job 3).timer.running = true := by
  decide +kernel

/-- R45, R108, R170: the one column of a page 8 pixels wide is the whole pass. Two tiles of flat white
take 39 + 9 = 48 bits, so the record is its header and 6 bytes. -/
theorem test_column_commits :
    let t := after (.columnEvent 0) busy
    t.records.map (fun r => (r.bytes.take 16, r.bytes.length)) =
      [([0, 3, 0, 0, 1, 0, 16, 0, 0, 1, 0, 6, 0, 0, 1, 0], 22)] ∧
    (t.job 3).emitted = 1 ∧ (t.job 3).state = .running ∧ t.lanes[0] = none ∧
    t.slots[0] = none ∧ t.commitCount = 1 := by
  decide +kernel

/-- spec/02: the bits of those two tiles, written out from the worked bit counts. -/
theorem test_column_payload :
    ((after (.columnEvent 0) busy).records.flatMap fun r => r.bytes.drop 16) =
      [0x20, 0x1A, 0xE8, 0xB8, 0x42, 0x7F] := by
  decide +kernel

/-- spec/03, a retried pass 2: S becomes 30, B 2,000 and the next pass 2; the reply is OK. -/
theorem test_retry :
    let s := ask { haltedWith (some { held with fits := false }) with
      jobs := (haltedWith (some { held with fits := false })).jobs.set 3
        { (haltedWith (some { held with fits := false })).job 3 with
          width := 800, columns := 100, budget := 1525, index := 41 } }
      0x24 3 [1, 2, 30, 0xD0, 0x07, 0, 0]
    let t := after .retry s
    (t.job 3).index = 30 ∧ (t.job 3).budget = 2000 ∧ (t.job 3).nextPass = .two ∧
    (t.job 3).state = .running ∧ t.candidates = [3] ∧
    t.replies.map Frame.payload = [[0x24, 0x00, 2, 0, 0, 30, 0xD0, 0x07, 0, 2]] := by
  decide +kernel

/-- spec/08, worked pacing case at 3.2 s: the buffered reload is taken, D is 4 with E at 3, and LATE is
recorded. -/
theorem test_paced_expiry :
    let j := { small with
      state := .running, bands := 6, emitted := 3, loaded := 3, due := 3
      noticeLevel := 1, noticeKinds := { state := false, condition := true }
      timer := { mode := .paced, interval := { reload := 5000, prescale := .by16 }, count := 1
                 buffered := some { reload := 4000, prescale := .by16 }, running := true
                 prescaler := 15 } }
    let t := (after (.pacedExpiry 3) (withJob j)).job 3
    t.due = 4 ∧ t.flags = { late := true } ∧ t.timer.count = 4000 ∧ t.timer.buffered = none ∧
    t.state = .running := by
  decide +kernel

/-- spec/10, a noise burst: the fourth CRC failure at threshold 3 overflows; job 2, with a pass in
flight, becomes STOPPING and job 5 PAUSED. -/
theorem test_quiet_state :
    let s := { (part.setJob 2 { small with state := .running }).setJob 5
        { small with state := .running } with
      lanes := part.lanes.set 1 (some (beginPass 2 0 0 .one 16))
      threshold := 3, errorCounter := 3
      reception := some { bytes := [1, 0, 0, 0, 0, 0], framingError := false, noisy := false } }
    let t := after .frameClose s
    t.quiet = true ∧ t.errorCounter = 3 ∧ t.totals.bad = 1 ∧
    (t.job 2).state = .stopping .pause ∧ (t.job 5).state = .paused := by
  decide +kernel

/-- R87: in the quiet state PIXELS is refused at the first check. -/
theorem test_pixels_quiet :
    (after .pixels (ask { withJob small with quiet := true } 0x30 0
      [0x10, 0, 0, 0, 0, 0, 0, 1, 0, 1, 2, 3])).replies.map Frame.payload =
      [[0x30, 0x15, 0, 24]] := by
  decide +kernel

/-- R142, R145: the first WRITE to an EMPTY slot starts from the factory profile; a weight of 70 is
clamped to 64. -/
theorem test_profile_write :
    let t := after .profileWrite (ask part 0x10 2 [1, 2, 70, 20, 1])
    (t.profiles[2]).content =
      .draft { factoryProfile with skin := { weight := 64, ceiling := 20, rounding := .soft } } ∧
    t.replies.map Frame.payload = [[0x10, 0x01, 1, 0, 0, 2, 64, 20, 1]] := by
  decide +kernel

/-- R41, R44, R69: JOB OPEN of a page of 800 by 32 pixels with every default and a budget below F(100),
1,525. -/
theorem test_job_open :
    let t := after .jobOpen (ask part 0x20 3
      [0, 0x20, 0x03, 32, 0, 100, 0, 0, 0, 255, 1, 0x10, 0, 0xFF, 0x0F, 0, 0, 0])
    (t.job 3).state = .opened ∧ (t.job 3).budget = 1525 ∧ (t.job 3).index = 16 ∧
    t.replies.map Frame.payload =
      [[0x20, 0x01, 0xF5, 0x05, 0, 16, 1, 0, 1, 0, 100, 0, 2, 0, 0xF5, 0x05, 0]] := by
  decide +kernel

/-! ### Witnesses: step, what settles -/

theorem part_ready : part.decoderReady = true := by decide

/-- StepTakesFront. -/
theorem witness_StepTakesFront : ({ part with pending := [.inquire] } : State).pending = .inquire :: [] :=
  rfl

/-- Job 3 is RUNNING with a running timer in this mode and at this count. -/
def timed (mode : TimerMode) (count : Nat) : Job :=
  { small with
    state := .running
    timer := { idleTimer with
      mode := mode, interval := { reload := 5, prescale := .by16 }, count := count, running := true } }

/-- IdleStepIsBaseTick: a running timer; no running timer; no power. -/
theorem witness_IdleStepIsBaseTick :
    ((withJob (timed .paced 1)).pending = [] ∧ (withJob (timed .paced 1)).powered = true ∧
      ∃ j, ((withJob (timed .paced 1)).job j).timer.running = true) ∧
    (part.pending = [] ∧ ∀ j, (part.job j).timer.running = false) ∧
    ({ part with powered := false } : State).powered = false := by
  decide +kernel

/-- EventsNotDueChangeNothing: no power; a decoder that is not ready; another kind at the head, a known one
for UNKNOWN_KIND, another action for a row of RESOLVE; an idle part, in which none of the events is due; a
receiver that waits for mark; and a running timer of another mode, at another count. -/
theorem witness_EventsNotDueChangeNothing :
    (({ part with powered := false } : State).powered = false ∧
      ∀ straps, Instr.inquire ≠ .powerOnReset straps) ∧
    (requestKind .inquire = some 0x01 ∧ State.reset.decoderReady = false) ∧
    (requestKind .inquire = some 0x01 ∧
      ∀ f rest, (ask part 0x02 0 []).inbound = f :: rest → f.kind ≠ 0x01) ∧
    (part.saving = none ∧ part.startup = none ∧ part.recallSlot = none ∧ part.reception = none ∧
      part.transmitter = none ∧ part.writing = none ∧ part.candidates = [] ∧
      (∀ l : Fin 2, part.lanes[l] = none) ∧ part.inHand ≠ .softReset ∧
      ∀ j, (part.job j).timer.running = false) ∧
    (({ part with
        inHand := .softReset
        transmitter := some { sending := .reply, frame := frame 0x80 0 [] } } : State).transmitter ≠
      none) := by
  refine ⟨⟨rfl, nofun⟩, ⟨rfl, by decide⟩, ⟨rfl, ?_⟩, by decide +kernel, nofun⟩
  rintro f rest ⟨⟩; decide

theorem witness_EventsNotDueChangeNothing_kinds :
    (∀ f rest, (ask part 0x02 0 []).inbound = f :: rest → ∃ c, requestKind c = some f.kind) ∧
    ((.retry, 1) ∈ resolveRows ∧
      ∀ f rest, (ask part 0x24 3 [2, 0, 0, 0, 0, 0, 0]).inbound = f :: rest →
        field f.payload 0 1 ≤ 4 ∧ field f.payload 0 1 ≠ 1) := by
  refine ⟨?_, by decide, ?_⟩
  · rintro f rest ⟨⟩; exact ⟨.softReset, rfl⟩
  · rintro f rest ⟨⟩; decide

theorem witness_EventsNotDueChangeNothing_events :
    ({ part with receiver := .awaitMark } : State).receiver ≠ .waiting ∧
    part.receiver = .waiting ∧
    (let s : State := { part with
        candidates := [3], lanes := Vector.replicate 2 (some (beginPass 2 0 0 .one 16)) };
      ∀ j others, s.candidates = j :: others →
        s.freeSpace < (s.job j).budget + 16 ∨ s.lanes[0] ≠ none ∧ s.lanes[1] ≠ none) ∧
    (((withJob (timed .page 1)).job 3).timer.running = true ∧
      ((withJob (timed .page 1)).job 3).timer.mode ≠ .paced ∧
      ((withJob (timed .page 1)).job 3).timer.count < 2) ∧
    ((withJob (timed .paced 2)).job 3).timer.count ≠ 1 := by
  refine ⟨by decide, by decide, ?_, by decide, by decide⟩
  exact fun _ _ _ => .inr ⟨nofun, nofun⟩

/-- Job 4 is a candidate, and job 1 of equal priority becomes one. -/
def twoReady : State :=
  { (part.setJob 4 { small with state := .running, ready := [0] }).setJob 1
      { small with state := .running, ready := [0] } with
    candidates := [4] }

/-- CandidatesFollow, with its last clause: job 1 joins behind job 4. -/
theorem witness_CandidatesFollow :
    twoReady.candidates.Nodup ∧
    twoReady.candidates.Pairwise (fun a b => (twoReady.job b).priority ≤ (twoReady.job a).priority) ∧
    4 ∈ twoReady.settle.candidates ∧ 1 ∈ twoReady.settle.candidates ∧ 1 ∉ twoReady.candidates ∧
    (twoReady.job 4).priority = (twoReady.job 1).priority ∧ 4 ∈ twoReady.candidates := by
  decide +kernel

/-- CandidatesFollow: jobs 1 and 4 join together, in ascending number. -/
theorem witness_CandidatesFollow_together :
    let s := { twoReady with candidates := [] }
    1 ∈ s.settle.candidates ∧ 4 ∈ s.settle.candidates ∧ 4 ∉ s.candidates ∧ (1 : Fin 8) < 4 := by
  decide +kernel

/-- What the arbiter's statement asks of a state. -/
def quietTransmitter (s : State) : Prop :=
  s.transmitter = none ∧ s.inHand ≠ .softReset ∧ ∀ j, (s.job j).noticeLevel ≤ 3

/-- A job with a pending notice at a level. -/
def noticed (level : Nat) : Job := { small with noticeLevel := level, noticePending := { state := true } }

/-- ArbiterOrder: a reply; each device notice; the job of higher level; the lower number of equal
levels; a segment; nothing. -/
theorem witness_ArbiterOrder :
    (quietTransmitter { part with replies := [frame 0x80 0 [1, 0]] }) ∧
    (quietTransmitter { part with marks := { startup := true } } ∧ part.replies = []) ∧
    (quietTransmitter { part with marks := { linkQuiet := true } }) ∧
    (quietTransmitter { part with marks := { saveDone := true }, lastSave := some (7, .ok) }) ∧
    (let s := (part.setJob 1 (noticed 1)).setJob 4 (noticed 3);
      quietTransmitter s ∧ s.marks = {} ∧ (s.job 4).noticePending ≠ {} ∧
      ∀ i, (s.job i).noticePending ≠ {} →
        (s.job i).noticeLevel < (s.job 4).noticeLevel ∨
          ((s.job i).noticeLevel = (s.job 4).noticeLevel ∧ 4 ≤ i)) ∧
    (let s := (part.setJob 2 (noticed 3)).setJob 5 (noticed 3);
      quietTransmitter s ∧ (s.job 2).noticePending ≠ {} ∧
      ∀ i, (s.job i).noticePending ≠ {} →
        (s.job i).noticeLevel < (s.job 2).noticeLevel ∨
          ((s.job i).noticeLevel = (s.job 2).noticeLevel ∧ 2 ≤ i)) ∧
    (quietTransmitter { part with records := [{ job := 3, bytes := [0, 3], sent := 1 }] } ∧
      ∀ i, (part.job i).noticePending = {}) ∧
    (quietTransmitter part ∧ part.records = []) := by
  unfold quietTransmitter
  decide +kernel

/-! ### Witnesses: resets and the store -/

/-- PowerAndPinReset, with a record write to cut off in slot 2, and slot 1 beside it. -/
theorem witness_PowerAndPinReset :
    let s : State := { part with saving := some { slot := 2, contents := factoryProfile } };
    s.powered = true ∧ (∃ w, s.saving = some w ∧ w.slot = 2 ∧ w.slot ≠ 1) ∧ (2 : Fin 8) ≠ 0 :=
  ⟨rfl, ⟨_, rfl, rfl, by decide⟩, by decide⟩

/-- SoftReset: the request, the wait and the event. -/
theorem witness_SoftReset :
    (Taking (ask part 0x02 0 []) (frame 0x02 0 []) [] 0x02 0 ∧ (frame 0x02 0 []).unit = 0) ∧
    (let s : State := { part with inHand := .softReset };
      s.powered = true ∧ s.inHand = .softReset ∧ s.transmitter = none) :=
  ⟨⟨taking 0x02 0 [] part_ready, rfl⟩, rfl, rfl, rfl⟩

/-- The factory settings as a record holds them. -/
def good : StoreRecord := recordWritten factoryProfile

/-- The same settings with a CRC that is not theirs. -/
def failing : StoreRecord := .written factoryProfile (~~~factoryProfile.crc)

/-- R148: the CRC stored with the contents decides the check. -/
theorem test_record_check :
    readRecord good true = .contents factoryProfile true ∧
    readRecord failing true = .contents factoryProfile false ∧
    readRecord (.written { factoryProfile with startIndex := 17 } factoryProfile.crc) true =
      .contents { factoryProfile with startIndex := 17 } false := by
  decide +kernel

/-- The start-up load at a slot, the record of slot 1 as given. -/
def loadingAt (slot : Fin 8) (attempts : Nat) (r : StoreRecord) : State :=
  { State.reset with startup := some { slot, attempts }, store := State.reset.store.set 0 r }

/-- StoreReads, the start-up load: a good record, a BLANK one, a failed check at the third and at the
fourth attempt, a decayed record, and slot 7, after which the load ends. -/
theorem witness_StoreReads_load :
    ((loadingAt 1 0 good).powered = true ∧
      (loadingAt 1 0 good).startup = some { slot := 1, attempts := 0 } ∧
      ((loadingAt 1 0 good).record 1).reads true = some factoryProfile) ∧
    (loadingAt 1 0 .blank).record 1 = .blank ∧
    (((loadingAt 1 2 failing).record 1).reads true = none ∧
      (loadingAt 1 2 failing).record 1 ≠ .blank ∧ 2 + 1 < 4) ∧
    (((loadingAt 1 3 failing).record 1).reads true = none ∧ 4 ≤ 3 + 1) ∧
    ((loadingAt 1 3 good).record 1).reads false = none ∧
    ((loadingAt 7 0 .blank).startup = some { slot := 7, attempts := 0 } ∧
      (loadingAt 7 0 .blank).record 7 = .blank) := by
  decide +kernel

/-- A RECALL of slot 1 in hand. -/
def recalling (attempts : Nat) (r : StoreRecord) : State :=
  { part with inHand := .recall 1 attempts, store := part.store.set 0 r }

/-- StoreReads, a RECALL: BLANK, a good record, a failed check at the third and at the fourth attempt. -/
theorem witness_StoreReads_recall :
    ((recalling 0 .blank).powered = true ∧ (recalling 0 .blank).startup = none ∧
      (recalling 0 .blank).inHand = .recall 1 0 ∧ (recalling 0 .blank).record 1 = .blank) ∧
    ((recalling 0 good).record 1).reads true = some factoryProfile ∧
    (((recalling 2 failing).record 1).reads true = none ∧
      (recalling 2 failing).record 1 ≠ .blank ∧ 2 + 1 < 4) ∧
    (((recalling 3 failing).record 1).reads true = none ∧ ¬3 + 1 < 4) := by
  decide +kernel

/-- Slot 2 with the content given. -/
def slotTwo (c : ProfileContent) : State :=
  { part with profiles := part.profiles.set 2 { content := c, lastSave := none } }

/-- SaveAndRecall: a RECALL taken, a SAVE taken, a save that completes. -/
theorem witness_SaveAndRecall :
    (Taking (ask part 0x14 2 []) (frame 0x14 2 []) [] 0x14 0 ∧
      (frame 0x14 2 []).unit.toNat = (2 : Fin 8).val ∧ part.inUse 2 = 0 ∧
      part.saveInFlight 2 = false) ∧
    (Taking (ask (slotTwo (.ready factoryProfile)) 0x13 2 []) (frame 0x13 2 []) [] 0x13 0 ∧
      (slotTwo (.ready factoryProfile)).saving = none ∧
      ((slotTwo (.ready factoryProfile)).profiles[2]).content = .ready factoryProfile) ∧
    (let s : State := { part with saving := some { slot := 2, contents := factoryProfile } };
      s.powered = true ∧ s.saving = some { slot := 2, contents := factoryProfile }) :=
  ⟨⟨taking 0x14 2 [] part_ready, rfl, by decide, rfl⟩,
    ⟨taking 0x13 2 [] (by decide), rfl, rfl⟩, rfl, rfl⟩

/-! ### Witnesses: profile requests -/

/-- ProfileWriteGroups: each group, with values at and past the ends of their ranges. -/
theorem witness_ProfileWriteGroups :
    (Taking (ask part 0x10 2 [0, 0, 1, 255, 4, 2, 6, 10, 14]) (frame 0x10 2 [0, 0, 1, 255, 4, 2, 6, 10, 14])
        [] 0x10 9 ∧ part.inUse 2 = 0 ∧ part.saveInFlight 2 = false ∧
      (part.profiles[2]).content.settings.getD factoryProfile = factoryProfile) ∧
    Taking (ask part 0x10 2 [1, byte Zone.mid.code, 7, 64, Rounding.truncate.code])
      (frame 0x10 2 [1, byte Zone.mid.code, 7, 64, Rounding.truncate.code]) [] 0x10 5 ∧
    (let v : Vector (BitVec 16) 7 := #v[256, 255, 0, 0xFF01, 0xFF00, 0x8000, 255];
      Taking (ask part 0x10 2 (2 :: v.toList.flatMap fun x => leBytes 2 x.toNat))
        (frame 0x10 2 (2 :: v.toList.flatMap fun x => leBytes 2 x.toNat)) [] 0x10 15) ∧
    Taking (ask part 0x10 2 (3 :: 64 :: List.replicate 13 0x41))
      (frame 0x10 2 (3 :: 64 :: List.replicate 13 0x41)) [] 0x10 15 :=
  ⟨⟨taking 0x10 2 _ part_ready, by decide, rfl, by decide⟩, taking 0x10 2 _ part_ready,
    taking 0x10 2 _ part_ready, taking 0x10 2 _ part_ready⟩

/-- Slot 2 in use by job 3. -/
def slotTwoUsed : State := withJob { small with profile := some 2 }

/-- Slot 2 being saved. -/
def slotTwoSaving : State := { part with saving := some { slot := 2, contents := factoryProfile } }

/-- A ready decoder with frame `f`, addressed to `k`, at the head of the queue. -/
def asks (s : State) (f : Frame) (k : Fin 8) : Prop :=
  s.decoderReady = true ∧ s.inbound = [f] ∧ f.unit.toNat = k.val

/-- ProfileRefusals, PROFILE WRITE: slot 0, a slot in use, a slot being saved, a group above 3, a length
that is not the group's, a zone above 4, a mode that names none. -/
theorem witness_ProfileRefusals_write :
    asks (ask part 0x10 0 [3]) (frame 0x10 0 [3]) 0 ∧
    (asks (ask slotTwoUsed 0x10 2 [3]) (frame 0x10 2 [3]) 2 ∧
      0 < (ask slotTwoUsed 0x10 2 [3]).inUse 2) ∧
    (asks (ask slotTwoSaving 0x10 2 [3]) (frame 0x10 2 [3]) 2 ∧
      (ask slotTwoSaving 0x10 2 [3]).inUse 2 = 0 ∧
      (ask slotTwoSaving 0x10 2 [3]).saveInFlight 2 = true) ∧
    (part.inUse 2 = 0 ∧ part.saveInFlight 2 = false) ∧
    (asks (ask part 0x10 2 [4]) (frame 0x10 2 [4]) 2 ∧ 4 ≤ (4 : Byte).toNat) ∧
    (asks (ask part 0x10 2 [0, 1, 2, 3, 4, 5, 6, 7]) (frame 0x10 2 [0, 1, 2, 3, 4, 5, 6, 7]) 2 ∧
      ([1, 2, 3, 4, 5, 6, 7] : List Byte).length ≠ 8) ∧
    (asks (ask part 0x10 2 [1, 2, 3, 4]) (frame 0x10 2 [1, 2, 3, 4]) 2 ∧
      ([2, 3, 4] : List Byte).length ≠ 4) ∧
    (asks (ask part 0x10 2 [2]) (frame 0x10 2 [2]) 2 ∧ ([] : List Byte).length ≠ 14) ∧
    (asks (ask part 0x10 2 [3]) (frame 0x10 2 [3]) 2 ∧ ([] : List Byte).length = 0) ∧
    (asks (ask part 0x10 2 [1, 5, 8, 0, 0]) (frame 0x10 2 [1, 5, 8, 0, 0]) 2 ∧ 5 ≤ (5 : Byte).toNat) ∧
    (asks (ask part 0x10 2 [1, 4, 8, 0, 3]) (frame 0x10 2 [1, 4, 8, 0, 3]) 2 ∧
      (4 : Byte).toNat ≤ 4 ∧ 3 ≤ (3 : Byte).toNat) := by
  unfold asks
  decide +kernel

/-- ProfileRefusals, the other requests: COMMIT of an EMPTY slot; SAVE of slot 0, while a save runs, of
a slot that is not READY; RECALL of slot 0, of a slot in use, of a slot being saved. -/
theorem witness_ProfileRefusals_others :
    (asks (ask part 0x11 2 []) (frame 0x11 2 []) 2 ∧ (part.profiles[2]).content = .empty) ∧
    asks (ask part 0x13 0 []) (frame 0x13 0 []) 0 ∧
    (asks (ask slotTwoSaving 0x13 3 []) (frame 0x13 3 []) 3 ∧ slotTwoSaving.saving.isSome = true) ∧
    (asks (ask (slotTwo (.draft factoryProfile)) 0x13 2 []) (frame 0x13 2 []) 2 ∧
      (slotTwo (.draft factoryProfile)).saving = none ∧
      ((slotTwo (.draft factoryProfile)).profiles[2]).content.isReady = false) ∧
    asks (ask part 0x14 0 []) (frame 0x14 0 []) 0 ∧
    (asks (ask slotTwoUsed 0x14 2 []) (frame 0x14 2 []) 2 ∧ 0 < slotTwoUsed.inUse 2) ∧
    (asks (ask slotTwoSaving 0x14 2 []) (frame 0x14 2 []) 2 ∧ slotTwoSaving.inUse 2 = 0 ∧
      slotTwoSaving.saveInFlight 2 = true) := by
  unfold asks
  decide +kernel

/-- A draft whose thresholds cross. -/
def crossed : Profile := { factoryProfile with tHi := 40 }

/-- ProfileCommitAndRead: READY; a consistent DRAFT; each bound failing; a READ. -/
theorem witness_ProfileCommitAndRead :
    (Taking (ask (slotTwo (.ready factoryProfile)) 0x11 2 []) (frame 0x11 2 []) [] 0x11 0 ∧
      ((slotTwo (.ready factoryProfile)).profiles[2]).content = .ready factoryProfile) ∧
    (Taking (ask (slotTwo (.draft factoryProfile)) 0x11 2 []) (frame 0x11 2 []) [] 0x11 0 ∧
      factoryProfile.Consistent) ∧
    (Taking (ask (slotTwo (.draft crossed)) 0x11 2 []) (frame 0x11 2 []) [] 0x11 0 ∧
      ((slotTwo (.draft crossed)).profiles[2]).content = .draft crossed ∧ ¬crossed.Consistent ∧
      crossed.tHi ≤ crossed.tLo) ∧
    Taking (ask part 0x12 2 []) (frame 0x12 2 []) [] 0x12 0 :=
  ⟨⟨taking 0x11 2 [] (by decide), rfl⟩,
    ⟨taking 0x11 2 [] (by decide), by unfold Profile.Consistent; decide⟩,
    ⟨taking 0x11 2 [] (by decide), rfl, by unfold Profile.Consistent; decide, by decide⟩,
    taking 0x12 2 [] part_ready⟩

/-! ### Witnesses: the link -/

/-- DecoderRefusals: an unknown kind; lengths one off; a device request whose unit is not 0; units past
7 at the first and last kinds of the profile and job requests. -/
theorem witness_DecoderRefusals :
    (asks (ask part 0x80 0 []) (frame 0x80 0 []) 0 ∧
      ∀ c ∈ [Instr.inquire, .retime, .pixels, .accept], requestKind c ≠ some 0x80) ∧
    (asks (ask part 0x01 0 [0]) (frame 0x01 0 [0]) 0 ∧ requestKind .inquire = some 0x01 ∧
      lengthFits 0x01 1 = false) ∧
    (lengthFits 0x10 0 = false ∧ lengthFits 0x10 258 = false ∧ lengthFits 0x20 20 = false ∧
      lengthFits 0x30 8 = false) ∧
    (asks (ask part 0x05 1 []) (frame 0x05 1 []) 1 ∧ lengthFits 0x05 0 = true ∧
      (frame 0x05 1 []).unit ≠ 0) ∧
    (lengthFits 0x14 0 = true ∧ 8 ≤ (frame 0x14 8 []).unit.toNat) ∧
    (lengthFits 0x10 1 = true ∧ 8 ≤ (frame 0x10 8 [0]).unit.toNat) ∧
    (lengthFits 0x20 22 = true ∧ lengthFits 0x2A 4 = true ∧
      8 ≤ (frame 0x2A 8 [0, 0, 0, 0]).unit.toNat) := by
  unfold asks
  decide +kernel

/-- DecoderRefusals: no row takes frames of the kind of REPLY. -/
theorem witness_DecoderRefusals_unknown : ∀ c, requestKind c ≠ some 0x80 := by
  intro c; cases c <;> simp [requestKind]

/-- InquireReport. -/
theorem witness_InquireReport :
    Taking (ask part 0x01 0 []) (frame 0x01 0 []) [] 0x01 0 ∧ (frame 0x01 0 []).unit = 0 :=
  ⟨taking 0x01 0 [] part_ready, rfl⟩

/-- LinkRequests: a threshold of 0 and one of 255; the clear; the report. -/
theorem witness_LinkRequests :
    Taking (ask part 0x03 0 [0]) (frame 0x03 0 [0]) [] 0x03 1 ∧
    Taking (ask part 0x03 0 [255]) (frame 0x03 0 [255]) [] 0x03 1 ∧
    Taking (ask part 0x04 0 []) (frame 0x04 0 []) [] 0x04 0 ∧
    Taking (ask part 0x05 0 []) (frame 0x05 0 []) [] 0x05 0 :=
  ⟨taking 0x03 0 _ part_ready, taking 0x03 0 _ part_ready, taking 0x04 0 _ part_ready,
    taking 0x05 0 _ part_ready⟩

/-- CharactersReceived: a false start, a good character, a framing error, a break spelt by its samples; a
break; a return to mark. -/
theorem witness_CharactersReceived :
    (part.powered = true ∧ part.receiver = .waiting ∧
      ∀ i : Fin 8, (0x41 : Byte).getLsbD i.val = (letterA[i.val + 1]).majority) ∧
    (letterA.set 0 (clean true))[0].majority = true ∧
    (letterA[0].majority = false ∧ letterA[9].majority = true) ∧
    ((letterA.set 9 (clean false))[0].majority = false ∧
      (letterA.set 9 (clean false))[9].majority = false ∧ (0x41 : Byte) ≠ 0) ∧
    ((∀ i : Fin 8, (0 : Byte).getLsbD i.val = (breakSamples[i.val + 1]).majority) ∧
      breakSamples[0].majority = false ∧ breakSamples[9].majority = false) ∧
    (let s : State := { part with receiver := .awaitIdle };
      s.powered = true ∧ s.receiver ≠ .waiting) := by
  decide +kernel

/-- The part at the idle that closes these bytes. -/
def closing (bytes : List Byte) : State :=
  { part with reception := some { bytes, framingError := false, noisy := true } }

/-- GoodFrameCloses: a good frame without payload, with room in the queue and with none. -/
theorem witness_GoodFrameCloses :
    (let r : Reception :=
        { bytes := (frame 0x01 0 []).bytes, framingError := false, noisy := true };
      ¬badReception r) ∧
    ((closing (frame 0x01 0 []).bytes).powered = true ∧
      (closing (frame 0x01 0 []).bytes).inbound.length < 8) ∧
    ¬({ part with inbound := List.replicate 8 (frame 0x01 0 []) } : State).inbound.length < 8 := by
  unfold badReception
  decide +kernel

/-- BadFrameCloses: a framing error, five bytes, a wrong length, a wrong CRC; below the threshold, at it,
and at it when already quiet. -/
theorem witness_BadFrameCloses :
    badReception { bytes := (frame 0x01 0 []).bytes, framingError := true, noisy := false } ∧
    badReception { bytes := [1, 0, 0, 0, 0], framingError := false, noisy := false } ∧
    badReception { bytes := [1, 0, 1, 0, 0, 0], framingError := false, noisy := false } ∧
    badReception { bytes := [1, 0, 0, 0, 0, 0], framingError := false, noisy := false } ∧
    ({ part with errorCounter := 30 } : State).errorCounter < part.threshold ∧
    (let s : State := { part with errorCounter := 31 };
      s.threshold ≤ s.errorCounter ∧ s.quiet = false) ∧
    (let s : State := { part with errorCounter := 31, quiet := true };
      s.threshold ≤ s.errorCounter ∧ s.quiet = true) := by
  unfold badReception
  decide +kernel

/-- The part while it sends. -/
def sending (what : Sending) : State :=
  { part with
    transmitter := some { sending := what, frame := frame 0x82 3 [] }
    replies := [frame 0x80 0 [1, 0]]
    records := [{ job := 3, bytes := [0, 3, 0], sent := 1 }] }

/-- TransmitEnds: a reply; a notice; a segment that ends its record, and one that does not. -/
theorem witness_TransmitEnds :
    (∃ t, (sending .reply).powered = true ∧ (sending .reply).transmitter = some t ∧
      t.sending = .reply) ∧
    (∃ t, (sending .notice).transmitter = some t ∧ t.sending = .notice) ∧
    (∃ t r, (sending (.segment 2)).transmitter = some t ∧ t.sending = .segment 2 ∧
      (sending (.segment 2)).records = r :: [] ∧ ¬r.sent + 2 < r.bytes.length) ∧
    (∃ t r, (sending (.segment 1)).transmitter = some t ∧ t.sending = .segment 1 ∧
      (sending (.segment 1)).records = r :: [] ∧ r.sent + 1 < r.bytes.length) :=
  ⟨⟨_, rfl, rfl, rfl⟩, ⟨_, rfl, rfl⟩, ⟨_, _, rfl, rfl, rfl, by decide⟩,
    ⟨_, _, rfl, rfl, rfl, by decide⟩⟩

/-- TransmitEnds, the line: the first byte of a frame, 0x82, and mark past the frame's last bit. -/
theorem witness_TransmitEnds_line :
    part.transmitter = none ∧
    (∃ t, (sending .reply).transmitter = some t ∧ t.frame.bytes[0]? = some 0x82 ∧
      10 * t.frame.bytes.length = 60) ∧
    (List.range 11).map (sending .reply).lineAt =
      [false, false, true, false, false, false, false, false, true, true, false] ∧
    (sending .reply).lineAt 59 = true ∧ (sending .reply).lineAt 60 = true :=
  ⟨rfl, ⟨_, rfl, by decide +kernel, by decide +kernel⟩, by decide +kernel⟩

/-! ### Witnesses: job requests -/

/-- A JOB OPEN payload: profile, width, height, tag, mask, and a timer part when given. -/
def openPayload (profile width height tag mask : Nat) (timer : List Byte) : List Byte :=
  [byte profile] ++ leBytes 2 width ++ leBytes 2 height ++ [0, 0, 0, 0, 255, 0] ++ leBytes 2 tag ++
  leBytes 2 mask ++ [0, 0, 0] ++ timer

/-- JobOpenAccepted: the largest page with a timer part, and the smallest page without one, beside a
context of another geometry whose tag does not overlap. -/
theorem witness_JobOpenAccepted :
    (Taking (ask part 0x20 5 (openPayload 0 8192 65535 4095 4095 [2, 0, 0, 3]))
        (frame 0x20 5 (openPayload 0 8192 65535 4095 4095 [2, 0, 0, 3])) [] 0x20 22 ∧
      (part.job 5).state = .free ∧ (part.profiles[0]).content = .ready factoryProfile) ∧
    (let r := openRequestOf (openPayload 0 8192 65535 4095 4095 [2, 0, 0, 3]);
      r.profile = (0 : Fin 8).val ∧ 1 ≤ r.width ∧ r.width ≤ 8192 ∧ 1 ≤ r.height ∧ r.tag ≤ 4095 ∧
        r.mask ≤ 4095 ∧ ∀ t ∈ r.timer, t.mode ≤ 2 ∧ t.selector ≤ 3) ∧
    Taking (ask (withJob small) 0x20 5 (openPayload 0 1 1 0x020 0xFFF []))
      (frame 0x20 5 (openPayload 0 1 1 0x020 0xFFF [])) [] 0x20 18 ∧
    (let r := openRequestOf (openPayload 0 1 1 0x020 0xFFF []);
      r.timer = none ∧ ∀ i, ((withJob small).job i).state ≠ .free →
        ((withJob small).job i).state ≠ .done →
        ((withJob small).job i).width ≠ r.width ∨ ((withJob small).job i).height ≠ r.height →
        (BitVec.ofNat 12 r.tag ^^^ ((withJob small).job i).tag) &&& BitVec.ofNat 12 r.mask &&&
          ((withJob small).job i).mask ≠ 0) :=
  ⟨⟨taking 0x20 5 _ part_ready, by decide, rfl⟩, by decide +kernel,
    taking 0x20 5 _ (by decide), by decide +kernel⟩

/-- JobOpenRefused: every context that is open; a profile number of 8; an EMPTY and a DRAFT slot; each
field one past its range; a clash. -/
theorem witness_JobOpenRefused :
    ((withJob small).decoderReady = true ∧ ((withJob small).job 3).state ≠ .free) ∧
    ((part.job 5).state = .free ∧ 8 ≤ (openRequestOf (openPayload 8 1 1 0 0 [])).profile) ∧
    (part.profiles[2]).content = .empty ∧
    ((slotTwo (.draft factoryProfile)).profiles[2]).content = .draft factoryProfile ∧
    ((openRequestOf (openPayload 0 0 1 0 0 [])).width = 0 ∧
      8192 < (openRequestOf (openPayload 0 8193 1 0 0 [])).width) ∧
    (openRequestOf (openPayload 0 1 0 0 0 [])).height = 0 ∧
    4095 < (openRequestOf (openPayload 0 1 1 4096 0 [])).tag ∧
    4095 < (openRequestOf (openPayload 0 1 1 0 4096 [])).mask ∧
    (∃ t, (openRequestOf (openPayload 0 1 1 0 0 [3, 0, 0, 0])).timer = some t ∧ 2 < t.mode) ∧
    (∃ t, (openRequestOf (openPayload 0 1 1 0 0 [2, 0, 0, 4])).timer = some t ∧ t.mode ≤ 2 ∧
      3 < t.selector) ∧
    (let r := openRequestOf (openPayload 0 1 1 0x010 0xFFF []);
      ((withJob small).job 3).state ≠ .free ∧ ((withJob small).job 3).state ≠ .done ∧
        ((withJob small).job 3).width ≠ r.width ∧
        (BitVec.ofNat 12 r.tag ^^^ ((withJob small).job 3).tag) &&& BitVec.ofNat 12 r.mask &&&
          ((withJob small).job 3).mask = 0) := by
  refine ⟨by decide, by decide +kernel, rfl, rfl, by decide +kernel, by decide +kernel,
    by decide +kernel, by decide +kernel, ⟨_, rfl, by decide⟩, ⟨_, rfl, by decide, by decide⟩,
    by decide +kernel⟩

/-- WrongStateRefused: a state in which each row is not taken. -/
theorem witness_WrongStateRefused :
    Taking (ask (withJob { small with state := .running }) 0x21 3 []) (frame 0x21 3 []) [] 0x21 0 ∧
    jobRows.map (fun row => [JobState.running, .opened, .stopping .halt, .free, .paused, .free,
      .halted].map fun st => row.taken st) =
      [[false, true, false, false, false, false, false],
        [true, false, true, false, true, false, false],
        [false, false, false, false, true, false, false],
        [true, true, true, false, true, false, true],
        [false, true, false, false, false, false, false],
        [true, true, true, false, true, false, true],
        [true, true, true, false, true, false, false]] := by
  refine ⟨taking 0x21 3 [] (by decide), by decide⟩

/-- Context 3 with these changes, in a quiet or a normal link. -/
def inState (st : JobState) (emitted : Nat) (quiet : Bool) : State :=
  { withJob { small with state := st, emitted } with quiet }

/-- StartPauseResume: START in either link state; PAUSE of a RUNNING job without and with a pass in
flight, of a STOPPING and of a PAUSED one; RESUME in either link state, with E below N and at N. -/
theorem witness_StartPauseResume :
    (Taking (ask (inState .opened 0 true) 0x21 3 []) (frame 0x21 3 []) [] 0x21 0 ∧
      ((inState .opened 0 true).job 3).state = .opened ∧ (inState .opened 0 true).quiet = true) ∧
    (((inState .opened 0 false).job 3).state = .opened ∧ (inState .opened 0 false).quiet = false) ∧
    (Taking (ask (inState .running 0 false) 0x22 3 []) (frame 0x22 3 []) [] 0x22 0 ∧
      ((inState .running 0 false).job 3).state = .running ∧
      (inState .running 0 false).passInFlight 3 = false) ∧
    ((busy.job 3).state = .running ∧ busy.passInFlight 3 = true) ∧
    ((inState (.stopping .halt) 0 false).job 3).state = .stopping .halt ∧
    (Taking (ask (inState .paused 1 true) 0x23 3 []) (frame 0x23 3 []) [] 0x23 0 ∧
      ((inState .paused 1 true).job 3).state = .paused ∧ (inState .paused 1 true).quiet = true) ∧
    (((inState .paused 1 false).job 3).emitted ≠ ((inState .paused 1 false).job 3).bands) ∧
    (((inState .paused 2 false).job 3).state = .paused ∧
      ((inState .paused 2 false).job 3).emitted = ((inState .paused 2 false).job 3).bands) ∧
    ((inState (.stopping .pause) 0 false).job 3).state = .stopping .pause :=
  ⟨⟨taking 0x21 3 [] (by decide), by decide, rfl⟩, by decide,
    ⟨taking 0x22 3 [] (by decide), by decide, by decide⟩, by decide +kernel, by decide,
    ⟨taking 0x23 3 [] (by decide), by decide, rfl⟩, by decide, by decide, by decide⟩

/-- AbortAndClose: ABORT with a pass in flight; CLOSE from OPEN and from DONE. -/
theorem witness_AbortAndClose :
    (Taking (ask busy 0x25 3 []) (frame 0x25 3 []) [] 0x25 0 ∧ (busy.job 3).state ≠ .free) ∧
    (Taking (ask (inState .opened 0 false) 0x26 3 []) (frame 0x26 3 []) [] 0x26 0 ∧
      ((inState .opened 0 false).job 3).state = .opened) ∧
    ((inState .done 2 false).job 3).state = .done :=
  ⟨⟨taking 0x25 3 [] (by decide +kernel), by decide +kernel⟩,
    ⟨taking 0x26 3 [] (by decide), by decide⟩, by decide⟩

/-- JobStatusReport: an open context with a full ready queue. -/
theorem witness_JobStatusReport :
    Taking (ask (withJob { small with ready := [0, 1, 2, 3] }) 0x27 3 []) (frame 0x27 3 []) [] 0x27 0 ∧
    ((withJob { small with ready := [0, 1, 2, 3] }).job 3).ready.length ≤ 4 ∧
    ((withJob { small with ready := [0, 1, 2, 3] }).job 3).ready[3]? = some 3 :=
  ⟨taking 0x27 3 [] (by decide), by decide, by decide⟩

/-- ClearFlagsAndSetEnables: CLEAR FLAGS; SET ENABLES with levels 0, 3 and 4. -/
theorem witness_ClearFlagsAndSetEnables :
    (Taking (ask (withJob small) 0x28 3 []) (frame 0x28 3 []) [] 0x28 0 ∧
      ((withJob small).job 3).state ≠ .free) ∧
    (Taking (ask (withJob small) 0x29 3 [0xFF, 0, 1]) (frame 0x29 3 [0xFF, 0, 1]) [] 0x29 3 ∧
      ((withJob small).job 3).state ≠ .halted) ∧
    Taking (ask (withJob small) 0x29 3 [1, 3, 3]) (frame 0x29 3 [1, 3, 3]) [] 0x29 3 ∧
    Taking (ask (withJob small) 0x29 3 [1, 4, 3]) (frame 0x29 3 [1, 4, 3]) [] 0x29 3 :=
  ⟨⟨taking 0x28 3 [] (by decide), by decide⟩, ⟨taking 0x29 3 _ (by decide), by decide⟩,
    taking 0x29 3 _ (by decide), taking 0x29 3 _ (by decide)⟩

/-- RetimeJob: a FREE context; a mode of 3; a selector of 4; a change of mode outside OPEN; OPEN; a
running PACED timer, a running PAGE timer, a stopped one. -/
theorem witness_RetimeJob :
    (Taking (ask part 0x2A 3 [1, 0, 0, 0]) (frame 0x2A 3 [1, 0, 0, 0]) [] 0x2A 4 ∧
      (part.job 3).state = .free) ∧
    (Taking (ask (withJob small) 0x2A 3 [3, 0, 0, 4]) (frame 0x2A 3 [3, 0, 0, 4]) [] 0x2A 4 ∧
      ((withJob small).job 3).state ≠ .free ∧ 3 ≤ (3 : Byte).toNat) ∧
    ((2 : Byte).toNat ≤ 2 ∧ 4 ≤ (4 : Byte).toNat) ∧
    (Taking (ask (withJob (timed .paced 1)) 0x2A 3 [2, 0, 0, 0]) (frame 0x2A 3 [2, 0, 0, 0]) [] 0x2A 4 ∧
      ((withJob (timed .paced 1)).job 3).state ≠ .opened ∧ (2 : Byte) = TimerMode.page.code ∧
      TimerMode.page ≠ ((withJob (timed .paced 1)).job 3).timer.mode ∧
      (0 : Byte) = Prescale.by1.code) ∧
    ((withJob small).job 3).state = .opened ∧
    (TimerMode.paced = ((withJob (timed .paced 1)).job 3).timer.mode ∧
      ((withJob (timed .paced 1)).job 3).timer.running = true) ∧
    (TimerMode.page = ((withJob (timed .page 1)).job 3).timer.mode ∧
      ((withJob (timed .page 1)).job 3).timer.running = true) ∧
    (TimerMode.off = ((inState .running 0 false).job 3).timer.mode ∧
      ((inState .running 0 false).job 3).timer.running = false) := by
  refine ⟨⟨taking 0x2A 3 _ part_ready, by decide⟩, ⟨taking 0x2A 3 _ (by decide), by decide, by decide⟩,
    by decide, ⟨taking 0x2A 3 _ (by decide), by decide, by decide, by decide, by decide⟩, ?_⟩
  decide

/-! ### Witnesses: RESOLVE -/

/-- ResolveRefusals: a length of 6; a unit of 8; a job that is not HALTED; the quiet state; an action of
5; passes 0 and 3 of a RETRY; no withheld band; CONTINUE with one; ACCEPT of one that does not fit. -/
theorem witness_ResolveRefusals :
    ((.accept, 0) ∈ resolveRows ∧ (.continueJob, 4) ∈ resolveRows) ∧
    (asks (ask part 0x24 3 [0, 0, 0, 0, 0, 0]) (frame 0x24 3 [0, 0, 0, 0, 0, 0]) 3 ∧
      field [0, 0, 0, 0, 0, 0] 0 1 = 0 ∧ ([0, 0, 0, 0, 0, 0] : List Byte).length ≠ 7) ∧
    (asks (ask part 0x24 3 [5, 0, 0, 0, 0, 0, 0]) (frame 0x24 3 [5, 0, 0, 0, 0, 0, 0]) 3 ∧
      5 ≤ field [5, 0, 0, 0, 0, 0, 0] 0 1 ∧ 8 ≤ (frame 0x24 8 []).unit.toNat) ∧
    ((part.job 3).state ≠ .halted ∧ ((haltedWith (some held)).job 3).state = .halted) ∧
    ({ haltedWith (some held) with quiet := true } : State).quiet = true ∧
    (field [1, 0, 0, 0, 0, 0, 0] 0 1 = 1 ∧ field [1, 0, 0, 0, 0, 0, 0] 1 1 ≠ 1 ∧
      field [1, 3, 0, 0, 0, 0, 0] 1 1 ≠ 2) ∧
    (((haltedWith none).job 3).state = .halted ∧ ((haltedWith none).job 3).withheld = none ∧
      field [3, 0, 0, 0, 0, 0, 0] 0 1 ≤ 3) ∧
    (((haltedWith (some held)).job 3).withheld = some held ∧ field [4, 0, 0, 0, 0, 0, 0] 0 1 = 4) ∧
    (((haltedWith (some { held with fits := false })).job 3).withheld =
        some { held with fits := false } ∧ ({ held with fits := false } : Withheld).fits = false) := by
  unfold asks
  decide +kernel

/-- AcceptAndDrop: both, with E + 1 below N and, for a page whose last band this is, at N. -/
theorem witness_AcceptAndDrop :
    (Taking (ask (haltedWith (some held)) 0x24 3 [0, 0, 0, 0, 0, 0, 0])
        (frame 0x24 3 [0, 0, 0, 0, 0, 0, 0]) [] 0x24 7 ∧
      Taking (ask (haltedWith (some held)) 0x24 3 [3, 0, 0, 0, 0, 0, 0])
        (frame 0x24 3 [3, 0, 0, 0, 0, 0, 0]) [] 0x24 7) ∧
    (((haltedWith (some held)).job 3).state = .halted ∧ (haltedWith (some held)).quiet = false ∧
      ((haltedWith (some held)).job 3).withheld = some held ∧
      ((haltedWith (some held)).job 3).reservation =
        some { size := 272, area := [1, 2, 3, 4, 5, 6] } ∧
      held.complete = true ∧ held.fits = true) ∧
    (((haltedWith (some held)).job 3).emitted + 1 ≠ ((haltedWith (some held)).job 3).bands ∧
      ({ (haltedWith (some held)).job 3 with emitted := 1 }).emitted + 1 =
        ((haltedWith (some held)).job 3).bands) :=
  ⟨⟨taking 0x24 3 _ (by decide +kernel), taking 0x24 3 _ (by decide +kernel)⟩, by decide +kernel,
    by decide +kernel⟩

/-- RetryDegradeContinue: RETRY with index 64 and no budget, and with one; DEGRADE; CONTINUE. -/
theorem witness_RetryDegradeContinue :
    Taking (ask (haltedWith (some held)) 0x24 3 [1, byte Pass.two.number, 64, 0, 0, 0, 0])
      (frame 0x24 3 [1, byte Pass.two.number, 64, 0, 0, 0, 0]) [] 0x24 7 ∧
    Taking (ask (haltedWith (some held)) 0x24 3 [1, byte Pass.one.number, 63, 1, 0, 3, 0])
      (frame 0x24 3 [1, byte Pass.one.number, 63, 1, 0, 3, 0]) [] 0x24 7 ∧
    Taking (ask (haltedWith (some held)) 0x24 3 [2, 0, 0, 0, 0, 0, 0])
      (frame 0x24 3 [2, 0, 0, 0, 0, 0, 0]) [] 0x24 7 ∧
    (Taking (ask (haltedWith none) 0x24 3 [4, 0, 0, 0, 0, 0, 0])
        (frame 0x24 3 [4, 0, 0, 0, 0, 0, 0]) [] 0x24 7 ∧
      ((haltedWith none).job 3).withheld = none ∧ ((haltedWith none).job 3).state = .halted) :=
  ⟨taking 0x24 3 _ (by decide +kernel), taking 0x24 3 _ (by decide +kernel),
    taking 0x24 3 _ (by decide +kernel), taking 0x24 3 _ (by decide +kernel), by decide +kernel,
    by decide +kernel⟩

/-! ### Witnesses: pixels -/

/-- A PIXELS payload: tag, band, row, x, count, and that many white pixels. -/
def pixelsPayload (tag band row x count : Nat) : List Byte :=
  leBytes 2 tag ++ leBytes 2 band ++ [byte row] ++ leBytes 2 x ++ leBytes 2 count ++
  (List.replicate count [230, 214, 205]).flatten

/-- The slot a first frame of band 0 begins for job 3. -/
def fresh : BandSlot where
  full := false
  tag := 0x010
  band := 0
  width := 8
  rowsNeeded := 16
  rows := List.replicate 16 []
  refs := 0x08

/-- Slot 0 as the loading slot of job 3, with the band given. -/
def loadingWith (b : BandSlot) : State :=
  { withJob { small with loading := some 0 } with slots := part.slots.set 0 (some b) }

/-- Rows complete of no slot: no target holds a loading slot. -/
theorem witness_refusedRows_none :
    refusedRows (withJob small) 0x010 0 ∧ refusedRows part 4096 0 := by
  unfold refusedRows targets
  exact ⟨.inr ⟨by decide +kernel, rfl⟩, .inr ⟨by decide +kernel, rfl⟩⟩

/-- PixelsRefused: the quiet state; a tag of 4,096; no target; L not the band, and L at N; a slot the
frame does not continue; no credit; no slot. -/
theorem witness_PixelsRefused :
    (Taking (ask { withJob small with quiet := true } 0x30 0 (pixelsPayload 0x010 0 0 0 1))
        (frame 0x30 0 (pixelsPayload 0x010 0 0 0 1)) [] 0x30 12 ∧
      refusedRows { withJob small with quiet := true } 0x010 0) ∧
    4095 < (pixelsRequestOf (pixelsPayload 4096 0 0 0 0)).tag ∧
    (∀ j, ¬targets (withJob small) 0x011 j) ∧
    (targets (withJob small) 0x010 3 ∧ ((withJob small).job 3).loaded ≠ 1 ∧
      ∀ i : Fin 8, i < 3 → ¬targets (withJob small) 0x010 i) ∧
    (targets (withJob { small with loaded := 2 }) 0x010 3 ∧
      ((withJob { small with loaded := 2 }).job 3).bands ≤
        ((withJob { small with loaded := 2 }).job 3).loaded) ∧
    (let s := loadingWith { fresh with refs := 0x0C };
      targets s 0x010 3 ∧ (s.job 3).loading = some 0 ∧
        s.slots[0] = some { fresh with refs := 0x0C } ∧
        ¬continues s (pixelsRequestOf (pixelsPayload 0x010 0 0 0 1)) 0 { fresh with refs := 0x0C } ∧
        refusedRows s 0x010 0) ∧
    (let s := withJob { small with bands := 9, loaded := 5, emitted := 1 };
      targets s 0x010 3 ∧ (s.job 3).loading = none ∧ 4 ≤ (s.job 3).loaded - (s.job 3).emitted) ∧
    (let s := { withJob small with slots := Vector.replicate 24 (some band0) };
      (∃ j, targets s 0x010 j) ∧
        (∀ j, targets s 0x010 j → (s.job j).loading = none ∧
          (s.job j).loaded - (s.job j).emitted < 4) ∧
        ∀ k : Fin 24, s.slots[k] ≠ none) := by
  refine ⟨⟨taking 0x30 0 _ (by decide), ?_⟩, by decide +kernel, ?_⟩
  · unfold refusedRows targets
    exact .inr ⟨by decide +kernel, rfl⟩
  · unfold refusedRows continues targets
    refine ⟨by decide +kernel, ⟨by decide +kernel, by decide +kernel, by decide +kernel⟩,
      ⟨by decide +kernel, by decide +kernel⟩, ⟨by decide +kernel, rfl, rfl, ?_, ?_⟩,
      ⟨by decide +kernel, rfl, by decide +kernel⟩,
      ⟨⟨3, by decide +kernel⟩, by decide +kernel, by decide +kernel⟩⟩
    · exact fun h => absurd (h.2.2 2) (by decide +kernel)
    · exact .inl ⟨3, 0, by decide +kernel, rfl, by decide +kernel, by decide +kernel⟩

/-- A frame's slot in the part with context 3 open: slot 0, as `fresh`. -/
theorem admitted_fresh (q : PixelsRequest) (tag : q.tag = 0x010) (band : q.band = 0) :
    admitted (withJob small) q 0 fresh := by
  unfold admitted begins continues targets
  rw [tag, band]
  refine ⟨rfl, by decide, by decide +kernel, by decide +kernel, .inr ?_⟩
  exact ⟨by decide +kernel, by decide +kernel, by decide +kernel, rfl, rfl, rfl, rfl,
    by decide +kernel, 3, by decide +kernel, by decide +kernel, rfl, rfl⟩

/-- PixelsRefused, the data checks at their boundaries, and PixelsAccepted: a whole row of 8. -/
theorem witness_PixelsAccepted_begins :
    (Taking (ask (withJob small) 0x30 0 (pixelsPayload 0x010 0 0 0 8))
        (frame 0x30 0 (pixelsPayload 0x010 0 0 0 8)) [] 0x30 33 ∧
      admitted (withJob small) (pixelsRequestOf (pixelsPayload 0x010 0 0 0 8)) 0 fresh ∧
      (0 : Nat) < fresh.rowsNeeded ∧ 0 = fresh.received 0 ∧ 0 + 8 ≤ fresh.width ∧
      (pixelsPayload 0x010 0 0 0 8).drop 9 =
        (List.replicate 8 ({ r := 230, g := 214, b := 205 } : Rgb)).flatMap
          (fun p => [p.r, p.g, p.b])) ∧
    admitted (withJob small) (pixelsRequestOf (pixelsPayload 0x010 0 0 0 0)) 0 fresh ∧
    (admitted (withJob small) (pixelsRequestOf (pixelsPayload 0x010 0 16 0 1)) 0 fresh ∧
      fresh.rowsNeeded ≤ 16) ∧
    (admitted (withJob small) (pixelsRequestOf (pixelsPayload 0x010 0 0 1 1)) 0 fresh ∧
      1 ≠ fresh.received 0) ∧
    (admitted (withJob small) (pixelsRequestOf (pixelsPayload 0x010 0 0 0 9)) 0 fresh ∧
      fresh.width < 0 + 9) :=
  ⟨⟨taking 0x30 0 _ (by decide), admitted_fresh _ rfl rfl, by decide, rfl, by decide,
      by decide⟩,
    admitted_fresh _ rfl rfl, ⟨admitted_fresh _ rfl rfl, by decide⟩,
    ⟨admitted_fresh _ rfl rfl, by decide⟩, ⟨admitted_fresh _ rfl rfl, by decide⟩⟩

/-- PixelsAccepted: a frame that continues the loading slot. -/
theorem witness_PixelsAccepted_continues :
    admitted (loadingWith fresh) (pixelsRequestOf (pixelsPayload 0x010 0 15 0 8)) 0 fresh ∧
    15 < fresh.rowsNeeded := by
  refine ⟨?_, by decide⟩
  unfold admitted continues targets
  refine ⟨rfl, by decide, by decide +kernel, by decide +kernel, .inl ?_⟩
  exact ⟨by decide +kernel, by decide +kernel, by decide +kernel⟩

/-- The write of row 15 in hand, the rows above it as given. -/
def writingRow (above : List (List Rgb)) : State :=
  { loadingWith { fresh with rows := above ++ [[]] } with
    inHand := .pixels
      { unit := 0, slot := 0, row := 15, pixels := List.replicate 8 { r := 0, g := 0, b := 0 } } }

/-- PixelsWritten: a write that completes the band, and one that does not. -/
theorem witness_PixelsWritten :
    (let rows := List.replicate 15 (List.replicate 8 ({ r := 0, g := 0, b := 0 } : Rgb));
      (writingRow rows).powered = true ∧
        (writingRow rows).slots[0] = some { fresh with rows := rows ++ [[]] } ∧
        ((after .pixelsWriteComplete (writingRow rows)).job 3).ready = [0]) ∧
    ((writingRow (List.replicate 15 [])).slots[0] =
        some { fresh with rows := List.replicate 15 [] ++ [[]] } ∧
      ((after .pixelsWriteComplete (writingRow (List.replicate 15 []))).job 3).loading = some 0) := by
  decide +kernel

/-! ### Witnesses: lanes and timers -/

/-- Job 3 is a candidate with band 0 ready. -/
def candidate : State :=
  { withJob { small with state := .running, loaded := 1, ready := [0] } with
    slots := part.slots.set 0 (some band0)
    candidates := [3] }

/-- GrantToHead: lane 0; lane 1 beside a BUSY lane 0; both BUSY; a head that waits for room. -/
theorem witness_GrantToHead :
    (candidate.powered = true ∧ candidate.candidates = 3 :: [] ∧ candidate.lanes[0] = none ∧
      (candidate.job 3).ready = 0 :: [] ∧ candidate.slots[0] = some band0 ∧
      (candidate.job 3).budget + 16 ≤ candidate.freeSpace) ∧
    (let s := { candidate with lanes := candidate.lanes.set 0 (some (beginPass 1 1 0 .one 0)) };
      s.lanes[0] ≠ none ∧ s.lanes[1] = none) ∧
    (let s := { candidate with lanes := Vector.replicate 2 (some (beginPass 1 1 0 .one 0)) };
      s.lanes[0] ≠ none ∧ s.lanes[1] ≠ none) ∧
    (let s := candidate.setJob 1 { small with reservation := some { size := 1048305, area := [] } };
      s.candidates = 3 :: [] ∧ s.freeSpace < (s.job 3).budget + 16) := by
  decide +kernel

/-- A lane at work meets Coded. -/
theorem coded_busy (j : Job) (h : j.profile = some 0) :
    Coded (busyWith j) 0 (beginPass 3 0 0 .one 16) band0 factoryProfile space := by
  refine ⟨rfl, rfl, rfl, ?_, ?_⟩
  · simp [State.profileOf, State.job, busyWith, withJob, State.setJob, beginPass, h]
    rfl
  · simp [State.job, busyWith, withJob, State.setJob, beginPass]

/-- The pass after its first column. -/
def firstColumn (j : Job) : Coding :=
  (busyWith j).columnCoded (beginPass 3 0 0 .one 16) factoryProfile band0 space

/-- A band of two needed rows of nine pixels, each pixel its place. -/
def narrow : BandSlot where
  full := true
  tag := 0
  band := 0
  width := 9
  rowsNeeded := 2
  rows := (List.range 2).map fun r => (List.range 9).map fun x => pixel (byte r) (byte x) 0
  refs := 0x08

/-- ColumnCoded, padding: the last real pixel, the first past the width, the first row past the last
needed one, and the corner. -/
theorem witness_ColumnCoded_padding :
    (narrow.rows.length = narrow.rowsNeeded ∧ ∀ row ∈ narrow.rows, row.length = narrow.width) ∧
    (let sample (y x : Nat) := (tilePixels narrow 1 0)[y]?.bind fun row => row[x]?;
      [sample 1 0, sample 1 1, sample 2 0, sample 7 7] =
        List.replicate 4 (some (pixel 1 8 0))) := by
  decide +kernel

/-- ColumnCoded: a pass of two columns goes on after its first. -/
theorem witness_ColumnCoded :
    Coded (busyWith { small with state := .running, columns := 2 }) 0 (beginPass 3 0 0 .one 16) band0
      factoryProfile space ∧
    ¬endsHere (busyWith { small with state := .running, columns := 2 })
      (firstColumn { small with state := .running, columns := 2 }) := by
  refine ⟨coded_busy _ rfl, ?_⟩
  unfold endsHere
  decide +kernel

/-- PassEndDecision: a pass of one column that fits, and is committed; one halted by a stop reason of
HALT; one of a budget of 5 bytes, which 48 bits exceed, and which leads on to pass 2. -/
theorem witness_PassEndDecision :
    (Coded busy 0 (beginPass 3 0 0 .one 16) band0 factoryProfile space ∧
      endsHere busy (firstColumn { small with state := .running }) ∧
      (busy.job 3).withheld = none ∧ (busy.job 3).state.coding = true ∧
      ¬haltDue (busy.job 3).causes (busy.job 3).halts ∧
      (firstColumn { small with state := .running }).pass.overMark = false) ∧
    (Coded (busyWith { small with state := .stopping .halt }) 0 (beginPass 3 0 0 .one 16) band0
        factoryProfile space ∧
      ((busyWith { small with state := .stopping .halt }).job 3).state = .stopping .halt) ∧
    (Coded (busyWith { small with state := .running, budget := 5 }) 0 (beginPass 3 0 0 .one 16) band0
        factoryProfile space ∧
      (firstColumn { small with state := .running, budget := 5 }).pass.overMark = true ∧
      endsHere (busyWith { small with state := .running, budget := 5 })
        (firstColumn { small with state := .running, budget := 5 })) := by
  refine ⟨⟨coded_busy _ rfl, ?_⟩, ⟨coded_busy _ rfl, by decide +kernel⟩, coded_busy _ rfl, ?_⟩
  · unfold endsHere haltDue; decide +kernel
  · unfold endsHere; decide +kernel

/-- TicksAndExpiries: a PACED and a PAGE timer at a count of 1, and a count of 2. -/
theorem witness_TicksAndExpiries :
    ((withJob (timed .paced 1)).powered = true ∧
      ((withJob (timed .paced 1)).job 3).timer.running = true ∧
      ((withJob (timed .paced 1)).job 3).timer.mode = .paced ∧
      ((withJob (timed .paced 1)).job 3).timer.count = 1) ∧
    (((withJob (timed .page 1)).job 3).timer.mode = .page ∧
      ((withJob (timed .page 1)).job 3).timer.count = 1) ∧
    2 ≤ ((withJob (timed .page 2)).job 3).timer.count := by
  decide

/-! ### Witnesses: arithmetic and encodings -/

/-- LiftingPair: the ends of the range of U, whose detail is the bound of R8. -/
theorem witness_LiftingPair :
    (-255 : Int) ≤ 255 ∧ detail 255 (-255) = 510 ∧ smooth 255 (-255) = 0 := by decide

/-- StepsAndRounding: the ends of the operands, both sides of the clamp, and a tie. -/
theorem witness_StepsAndRounding :
    acStep 1 8 0 = 1 ∧ acStep 255 64 63 = 255 ∧ 65407 < 255 * 64 * (63 + 16) ∧
    1 * 8 * (0 + 16) ≤ 65407 ∧ Rounding.quotient .nearest 4 8 = 1 ∧
    Rounding.quotient .soft 6 8 = 1 ∧ Rounding.quotient .soft 5 8 = 0 ∧
    clips .truncate 1 256 = true ∧ clips .nearest 1 255 = false ∧
    levelOf .truncate 1 (-256) = -255 ∧
    componentClips .one { dc := 1, s3 := 1, s2 := 1, s1 := 1 }
      { weight := 16, ceiling := 63, rounding := .truncate } 0 (List.replicate 63 0 ++ [1020]) = true := by
  decide +kernel

/-- ToneZones: a tile is a block, and so is an array of one of its components; the checkerboard reaches
R8's bound of HH, at scan position 48. -/
theorem witness_ToneZones_tile :
    IsBlock 8 checkerboard ∧ IsBlock (2 * 4) (checkerboard.map fun row => row.map Rgb.chromaU) ∧
    (coefficients Rgb.chromaU checkerboard)[48]? = some 1020 ∧ isDiagonal 48 = true := by
  unfold IsBlock
  decide +kernel

/-- ToneZones: each zone of the factory profile, at the thresholds. -/
theorem witness_ToneZones :
    factoryProfile.Consistent ∧
    zoneOf factoryProfile { dcY := 200, dcU := 0, dcV := 0, span := 24 } = .brightDetail ∧
    zoneOf factoryProfile { dcY := 200, dcU := 0, dcV := 0, span := 23 } = .brightFlat ∧
    zoneOf factoryProfile { dcY := 40, dcU := -60, dcV := 10, span := 0 } = .shadow ∧
    zoneOf factoryProfile { dcY := 41, dcU := -60, dcV := 70, span := 0 } = .skin ∧
    zoneOf factoryProfile { dcY := 199, dcU := -4, dcV := 70, span := 99 } = .mid := by
  unfold Profile.Consistent
  decide

/-- RateControl: K = 1 and K = 2, where S is never lowered, and both sides of each case of R47. -/
theorem witness_RateControl :
    (1 ≤ 2 ∧ 1 < 2 ∧ budgetFloor 2 ≤ 256) ∧
    [-961, -960, 0, 1, 960, 961].map (fun e => updateIndex 30 e 480) = [29, 30, 30, 31, 31, 32] ∧
    updateIndex 63 961 480 = 63 ∧ updateIndex 0 (-961) 480 = 0 ∧
    (24 * 256 < 6145 ∧ 8 * 256 < 2049 ∧ 6145 ≤ 6620) := by
  decide

/-- A tile at the ends of its levels. -/
def extreme : TileLevels where
  zone := .mid
  y := { dc := 255, ac := List.replicate 63 (-255) }
  u := { dc := -255, ac := List.replicate 63 255 }
  v := { dc := 255, ac := List.replicate 63 255 }

/-- TileSizes and PayloadReadsBack: the largest tile takes 3,310 bits, and reads back. -/
theorem witness_TileSizes :
    let p : Predictors := { y := 0, u := 255, v := -255 }
    (∀ c ∈ [extreme.y, extreme.u, extreme.v], c.ac.length = 63 ∧ ∀ x ∈ c.ac, x.natAbs ≤ 255) ∧
    (tileBits p extreme).length = 3310 ∧
    readTiles 1 p (tilesBits p [extreme]) = some ([extreme], []) := by
  decide +kernel

/-- The smallest bound: no AC level, and the largest DC deltas. -/
theorem witness_TileSizes_flat :
    (tileBits { y := 0, u := 255, v := -255 }
      { zone := .mid, y := dcOnly 255, u := dcOnly (-255), v := dcOnly 255 }).length = 61 := by
  decide +kernel

/-- StreamPacking: 12 bits into budgets of 1 and 2 bytes, beside what an earlier pass left. -/
theorem witness_StreamPacking :
    ([0xFF] : List Byte).length ≤ 1 ∧
    packed ([true, false, true] ++ List.replicate 9 true) 2 = [0xBF, 0xF0] := by
  decide +kernel

/-- R154, R164: start bit at space, 0x41 least significant bit first, stop bit at mark. -/
theorem test_characterBits :
    characterBits 0x41 = [false, true, false, false, false, false, false, true, false, true] := by
  decide

/-- FramesReadBack: a character as sent; the largest payload is 4,096 bytes; a frame of five bytes is
none. -/
theorem witness_FramesReadBack :
    letterA.toList.map BitSamples.majority = characterBits 0x41 ∧
    (frame 0x30 0 (List.replicate 4096 0)).payload.length ≤ 4096 ∧
    frameOfBytes (frame 0x01 0 [1, 2]).bytes = some (frame 0x01 0 [1, 2]) ∧
    frameOfBytes [1, 0, 0, 0, 0] = none := by
  decide +kernel

/-- PayloadLayouts: fields at the ends of their ranges. -/
theorem witness_PayloadLayouts :
    (65535 < 65536 ∧ 4294967295 < 4294967296 ∧ 255 < 256) ∧
    (openRequestOf (openPayload 255 65535 256 65535 1 [255, 0xFF, 0xFF, 255])).timer =
      some { mode := 255, reload := 65535, selector := 255 } := by
  decide +kernel

/-! ### Witnesses: the invariants -/

/-- A part at work: job 3's pass ends at the command that waits. -/
def atWork : State := { busy with pending := [.columnEvent 0] }

/-- The step from `atWork`, whose next state every statement of a kept invariant needs. -/
theorem witness_step : ∃ t, step atWork = .next t := ⟨_, rfl⟩

theorem witness_LinkCountsKept : LinkInv atWork := by unfold LinkInv; decide +kernel

theorem witness_CandidatesAndLanesKept : CandidateInv atWork ∧ LaneInv atWork := by
  unfold CandidateInv LaneInv; decide +kernel

theorem witness_OutputQueueKept : OutputInv atWork := by unfold OutputInv; decide +kernel

theorem witness_IndicesAndBudgetsKept : IndexInv atWork := by unfold IndexInv; decide +kernel

theorem witness_BitStreamsKept : StreamInv atWork := by unfold StreamInv; decide +kernel

theorem witness_ReferenceSetsKept : HoldInv atWork := by unfold HoldInv; decide +kernel

theorem witness_SlotContentsKept : SlotInv atWork := by unfold SlotInv; decide +kernel

theorem witness_CursorsKept : CursorInv atWork := by unfold CursorInv; decide +kernel

theorem witness_TimersKept : TimerInv atWork := by
  unfold TimerInv Interval.InRange; decide +kernel

theorem witness_ProfilesKept : ProfileInv atWork := by
  have idle : atWork.saving = none ∧ atWork.recallSlot = none ∧ atWork.startup = none := by
    decide +kernel
  have blank : ∀ i : Fin 7, atWork.store[i] = .blank := by decide +kernel
  refine ⟨by decide +kernel, ?_, ?_, ?_, by decide +kernel, ?_, ?_⟩
  · unfold Profile.InRange Profile.Consistent BaseSteps.InRange ZoneSettings.InRange
    decide +kernel
  · intro i p hp
    rw [blank i] at hp
    cases hp
  · rw [idle.1]; exact fun _ h => (Option.not_mem_none _ h).elim
  · rw [idle.2.1]; exact fun _ h => (Option.not_mem_none _ h).elim
  · rw [idle.2.2]; exact fun _ h => (Option.not_mem_none _ h).elim

/-- FixedWhileOpen: job 3 is out of FREE before the step and after it, and slot 0 in use. -/
theorem witness_FixedWhileOpen :
    (atWork.job 3).state ≠ .free ∧ ((after (.columnEvent 0) busy).job 3).state ≠ .free ∧
    0 < atWork.inUse 0 ∧ 0 < (after (.columnEvent 0) busy).inUse 0 := by
  decide +kernel

end Sys2Proof.Tests
end

/-! ## Tile arithmetic: the lifting pair (R5) -/

section
namespace Sys2Proof.Laws
open Sys2Proof.Machine

/-- The rational floor of a half, as the model's division by 2 computes it (R5, R6). -/
theorem floor_half (n : Int) : ⌊(n : ℚ) / 2⌋ = n / 2 := by
  exact_mod_cast Rat.floor_intCast_div_natCast n 2

/-- The model's smooth value is the mean of the pair, rounded toward minus infinity (R5). -/
theorem smooth_eq_half_sum (a b : Int) : smooth a b = (a + b) / 2 := by
  have mean_from_b : a + b = (a - b) + b * 2 := by ring
  calc smooth a b = b + (a - b) / 2 := rfl
    _ = (a - b) / 2 + b := add_comm _ _
    _ = ((a - b) + b * 2) / 2 := (Int.add_mul_ediv_right (a - b) b two_ne_zero).symm
    _ = (a + b) / 2 := by rw [mean_from_b]

theorem le_smooth {m a b : Int} (ha : m ≤ a) (hb : m ≤ b) : m ≤ smooth a b := by
  rw [smooth_eq_half_sum]
  omega

theorem smooth_le {M a b : Int} (ha : a ≤ M) (hb : b ≤ M) : smooth a b ≤ M := by
  rw [smooth_eq_half_sum]
  omega

/-- A detail spans at most the width of the range its pair lies in (R5, R8). -/
theorem detail_mem_range {m M a b : Int} (hma : m ≤ a) (haM : a ≤ M) (hmb : m ≤ b)
    (hbM : b ≤ M) : -(M - m) ≤ detail a b ∧ detail a b ≤ M - m := by
  constructor
  · calc -(M - m) = m - M := neg_sub M m
      _ ≤ a - b := sub_le_sub hma hbM
  · exact sub_le_sub haM hmb

/-- Settles O41: `smooth_eq_half_sum` makes the smooth value a mean, which keeps every range that
holds the pair. -/
theorem liftingPair : Obligations.LiftingPair := by
  intro a b
  have floor_of_detail : smooth a b = b + ⌊((a - b : Int) : ℚ) / 2⌋ := by
    rw [floor_half]
    rfl
  have floor_of_sum : smooth a b = ⌊((a + b : Int) : ℚ) / 2⌋ := by
    rw [floor_half, smooth_eq_half_sum]
  exact ⟨rfl, floor_of_detail, floor_of_sum,
    le_smooth (min_le_left a b) (min_le_right a b),
    smooth_le (le_max_left a b) (le_max_right a b),
    fun _ _ => detail_mem_range⟩

end Sys2Proof.Laws
end

/-! ## Rate control: the target, the tolerance and the per-column update (R46 to R48) -/

section
namespace Sys2Proof.Laws
open Sys2Proof.Machine

/-! ### The target (R46) -/

/-- The model's division is the rational floor of R46. -/
theorem target_eq_floor (budget columns column : Nat) :
    (target budget columns column : Int) = ⌊(8 * budget * (column + 1) : ℚ) / columns⌋ := by
  have natural_floor :
      target budget columns column = ⌊(8 * budget * (column + 1) : ℚ) / columns⌋₊ :=
    mod_cast (Nat.floor_div_eq_div (K := ℚ) (8 * budget * (column + 1)) columns).symm
  rw [natural_floor, Int.natCast_floor_eq_floor (by positivity)]

/-- The target after the last column is the whole budget in bits. -/
theorem target_last {columns : Nat} (budget : Nat) (hK : 0 < columns) :
    target budget columns (columns - 1) = 8 * budget := by
  rw [target, Nat.sub_add_cancel hK, Nat.mul_div_cancel _ hK]

theorem target_mono (budget columns : Nat) : Monotone (target budget columns) := fun _ _ hc =>
  Nat.div_le_div_right (Nat.mul_le_mul_left _ (Nat.succ_le_succ hc))

/-! ### The tolerance (R46) -/

/-- The tolerance is the least share whose K-fold holds the budget in bits. -/
theorem tolerance_le_iff {columns : Nat} (budget n : Nat) (hK : 0 < columns) :
    tolerance budget columns ≤ n ↔ 8 * budget ≤ columns * n := by
  rw [tolerance, ← Nat.add_sub_assoc hK, ← Nat.ceilDiv_eq_add_pred_div, ceilDiv_le_iff_le_mul hK]

theorem le_columns_mul_tolerance {columns : Nat} (budget : Nat) (hK : 0 < columns) :
    8 * budget ≤ columns * tolerance budget columns :=
  (tolerance_le_iff budget _ hK).1 le_rfl

/-- The model's rounding up is the rational ceiling of R46: both are the least such share. -/
theorem tolerance_eq_ceil {columns : Nat} (budget : Nat) (hK : 0 < columns) :
    (tolerance budget columns : Int) = ⌈(8 * budget : ℚ) / columns⌉ := by
  have least_share : tolerance budget columns = ⌈(8 * budget : ℚ) / columns⌉₊ := by
    refine eq_of_forall_ge_iff fun n => ?_
    rw [tolerance_le_iff budget n hK, Nat.ceil_le, div_le_iff₀' (Nat.cast_pos.2 hK)]
    norm_cast
  rw [least_share, Int.natCast_ceil_eq_ceil (by positivity)]

/-- A budget from the floor up holds a pass 3 of every column (R37). -/
theorem pass_three_bits_le {columns budget : Nat} (hB : budgetFloor columns ≤ budget) :
    122 * columns ≤ 8 * budget := by
  unfold budgetFloor at hB
  omega

/-- The tolerance is never narrower than the largest pass-3 column (R36, R46). -/
theorem pass_three_column_le_tolerance {columns budget : Nat} (hK : 0 < columns)
    (hB : budgetFloor columns ≤ budget) : 122 ≤ tolerance budget columns := by
  refine Nat.le_of_mul_le_mul_left ?_ hK
  calc columns * 122 = 122 * columns := Nat.mul_comm ..
    _ ≤ 8 * budget := pass_three_bits_le hB
    _ ≤ columns * tolerance budget columns := le_columns_mul_tolerance budget hK

/-- c + 1 columns have a target of at most c + 1 even shares rounded up: why S cannot be lowered
early (R48). -/
theorem target_le_shares {columns : Nat} (budget column : Nat) (hK : 0 < columns) :
    target budget columns column ≤ (column + 1) * tolerance budget columns := by
  refine Nat.div_le_of_le_mul ?_
  calc 8 * budget * (column + 1)
      ≤ columns * tolerance budget columns * (column + 1) :=
        Nat.mul_le_mul_right _ (le_columns_mul_tolerance budget hK)
    _ = columns * ((column + 1) * tolerance budget columns) := by ring

/-- Columns 0 and 1 never meet the lowering condition, whatever their bit count (R48). -/
theorem neg_two_tolerance_le_error {columns column : Nat} (budget bits : Nat) (hK : 0 < columns)
    (early : column ≤ 1) :
    -(2 * (tolerance budget columns : Int)) ≤ columnError budget columns column bits := by
  have two_shares : target budget columns column ≤ 2 * tolerance budget columns :=
    (target_le_shares budget column hK).trans (Nat.mul_le_mul_right _ (Nat.succ_le_succ early))
  unfold columnError
  omega

/-! ### The per-column update (R47), a row of its table each -/

section
variable {index tol : Nat} {e : Int}

theorem updateIndex_far_over (he : 2 * (tol : Int) < e) :
    updateIndex index e tol = min 63 (index + 2) := if_pos he

theorem updateIndex_over (pos : 0 < e) (he : e ≤ 2 * (tol : Int)) :
    updateIndex index e tol = min 63 (index + 1) := by
  rw [updateIndex, if_neg he.not_gt, if_pos pos]

theorem updateIndex_within (lo : -(2 * (tol : Int)) ≤ e) (he : e ≤ 0) :
    updateIndex index e tol = index := by
  have not_far : ¬ 2 * (tol : Int) < e := by omega
  rw [updateIndex, if_neg not_far, if_neg he.not_gt, if_neg lo.not_gt]

theorem updateIndex_far_under (he : e < -(2 * (tol : Int))) :
    updateIndex index e tol = index - 1 := by
  have not_far : ¬ 2 * (tol : Int) < e := by omega
  have not_over : ¬ 0 < e := by omega
  rw [updateIndex, if_neg not_far, if_neg not_over, if_pos he]

/-- The error is in one row of R47's table. -/
theorem error_cases (tol : Nat) (e : Int) :
    2 * (tol : Int) < e ∨ (0 < e ∧ e ≤ 2 * (tol : Int)) ∨
      (-(2 * (tol : Int)) ≤ e ∧ e ≤ 0) ∨ e < -(2 * (tol : Int)) := by
  omega

theorem updateIndex_le (hi : index ≤ 63) : updateIndex index e tol ≤ 63 := by
  obtain far | ⟨pos, near⟩ | ⟨lo, under⟩ | far := error_cases tol e
  · exact updateIndex_far_over far ▸ min_le_left ..
  · exact updateIndex_over pos near ▸ min_le_left ..
  · exact (updateIndex_within lo under).trans_le hi
  · exact updateIndex_far_under far ▸ (Nat.sub_le ..).trans hi

/-- Only the last row of R47's table lowers S. -/
theorem le_updateIndex (hi : index ≤ 63) (lo : -(2 * (tol : Int)) ≤ e) :
    index ≤ updateIndex index e tol := by
  obtain far | ⟨pos, near⟩ | ⟨_, under⟩ | far := error_cases tol e
  · exact updateIndex_far_over far ▸ le_min hi (Nat.le_add_right ..)
  · exact updateIndex_over pos near ▸ le_min hi (Nat.le_add_right ..)
  · exact (updateIndex_within lo under).ge
  · exact absurd lo far.not_ge

end

/-! ### A page of one column (R48) -/

theorem target_one_column (budget : Nat) : target budget 1 0 = 8 * budget :=
  target_last budget Nat.one_pos

theorem tolerance_one_column (budget : Nat) : tolerance budget 1 = 8 * budget :=
  Nat.div_one _

/-- Target and tolerance are both 8B, so two tolerances above the target are 24B bits. -/
theorem updateIndex_one_column (budget bits index : Nat) :
    updateIndex index (columnError budget 1 0 bits) (tolerance budget 1) =
      (if 24 * budget < bits then min 63 (index + 2)
      else if 8 * budget < bits then min 63 (index + 1)
      else index) := by
  have not_lowered := neg_two_tolerance_le_error budget bits Nat.one_pos zero_le_one
  rw [columnError, target_one_column, tolerance_one_column] at not_lowered ⊢
  split_ifs with far some_over
  · exact updateIndex_far_over (by omega)
  · exact updateIndex_over (by omega) (by omega)
  · exact updateIndex_within not_lowered (by omega)

theorem endsEarly_one_iff (budget bits : Nat) :
    endsEarly .one budget bits = true ↔ 8 * budget < bits := decide_eq_true_iff

/-! ### The statement -/

/-- Settles O44: floor and ceiling by their order properties, R47 row by row, and R48 by
`target_le_shares`, which bounds the target of columns 0 and 1 by two tolerances. -/
theorem rateControl : Obligations.RateControl := by
  refine ⟨fun budget columns column bits hK hc => ?_, fun index tol e hi => ?_,
    fun budget columns column bits index hK hc hi early => ?_,
    fun budget bits index _ _ => ?_⟩
  · have largest_product (ceil : budget ≤ 196608) (wide : columns ≤ 1024) :
        8 * budget * (column + 1) ≤ 1610612736 :=
      calc 8 * budget * (column + 1)
          ≤ 8 * 196608 * 1024 :=
            Nat.mul_le_mul (Nat.mul_le_mul_left 8 ceil) (Nat.succ_le_of_lt (hc.trans_le wide))
        _ = 1610612736 := rfl
    exact ⟨target_eq_floor .., tolerance_eq_ceil budget hK, rfl, target_last budget hK,
      fun _ later => target_mono budget columns later,
      fun hB => ⟨pass_three_bits_le hB, pass_three_column_le_tolerance hK hB⟩, largest_product⟩
  · have lowered (far : e < -(2 * (tol : Int))) :
        (updateIndex index e tol : Int) = max 0 ((index : Int) - 1) := by
      rw [updateIndex_far_under far]
      omega
    exact ⟨updateIndex_far_over, updateIndex_over, updateIndex_within, lowered, updateIndex_le hi⟩
  · have not_lowered :=
      neg_two_tolerance_le_error budget bits hK (show column ≤ 1 by omega)
    exact ⟨not_lowered, le_updateIndex hi not_lowered⟩
  · have smallest_budgets (_ : bits ≤ 6620) (_ : 24 * budget < bits) : budget ≤ 275 := by omega
    have column_two_lowers : updateIndex 36 (columnError 400 8 2 300) (tolerance 400 8) = 35 := by
      decide
    exact ⟨target_one_column budget, tolerance_one_column budget,
      updateIndex_one_column budget bits index, endsEarly_one_iff budget bits, smallest_budgets,
      column_two_lowers⟩

end Sys2Proof.Laws
end

/-! ## What a step can do, said once -/

section
namespace Sys2Proof.Laws
open Sys2Proof.Machine

/-! ### Rows and events -/

/-- The event of a row that `exec` hands to `occur`; the rows of power and reset hand it none. -/
def eventOf : Instr → State → Option State
  | .powerOnReset _ | .pinReset _ | .lossOfPower => fun _ => none
  | .recordRead passes => recordReadEvent passes
  | .saveCompletion passes => saveCompletionEvent passes
  | .breakCharacter => breakEvent
  | .frameClose => frameCloseEvent
  | .unknownKind => takeHead isUnknownKind fun f s => s.answer f .unknownKind []
  | .inquire =>
    takeHead (isKind kindInquire) (deviceRequest 0 fun f s => s.answer f .ok s.inquireReport)
  | .softReset => takeHead (isKind kindSoftReset) (deviceRequest 0 softResetTaken)
  | .softResetEvent => softResetEvent
  | .linkSet => takeHead (isKind kindLinkSet) (deviceRequest 1 linkSetTaken)
  | .linkClear => takeHead (isKind kindLinkClear) (deviceRequest 0 linkClearTaken)
  | .linkStatus =>
    takeHead (isKind kindLinkStatus) (deviceRequest 0 fun f s => s.answer f .ok s.linkReport)
  | .profileWrite =>
    takeHead (isKind kindProfileWrite)
      (profileRequest (fun n => 1 ≤ n && n ≤ 257) profileWriteTaken)
  | .profileCommit =>
    takeHead (isKind kindProfileCommit) (profileRequest (· == 0) profileCommitTaken)
  | .profileRead => takeHead (isKind kindProfileRead) (profileRequest (· == 0) profileReadTaken)
  | .profileSave => takeHead (isKind kindProfileSave) (profileRequest (· == 0) profileSaveTaken)
  | .profileRecall =>
    takeHead (isKind kindProfileRecall) (profileRequest (· == 0) profileRecallTaken)
  | .jobOpen => takeHead (isKind kindJobOpen) (jobRequest openLengths.contains jobOpenTaken)
  | .jobStart => takeHead (isKind kindJobStart) (jobRequest (· == 0) jobStartTaken)
  | .jobPause => takeHead (isKind kindJobPause) (jobRequest (· == 0) jobPauseTaken)
  | .jobResume => takeHead (isKind kindJobResume) (jobRequest (· == 0) jobResumeTaken)
  | .accept => resolveRow actionAccept acceptEffect
  | .retry => resolveRow actionRetry retryEffect
  | .degrade => resolveRow actionDegrade degradeEffect
  | .drop => resolveRow actionDrop dropEffect
  | .continueJob => resolveRow actionContinue continueEffect
  | .jobAbort => takeHead (isKind kindJobAbort) (jobRequest (· == 0) jobAbortTaken)
  | .jobClose => takeHead (isKind kindJobClose) (jobRequest (· == 0) jobCloseTaken)
  | .jobStatus => takeHead (isKind kindJobStatus) (jobRequest (· == 0) jobStatusTaken)
  | .clearFlags => takeHead (isKind kindClearFlags) (jobRequest (· == 0) clearFlagsTaken)
  | .setEnables => takeHead (isKind kindSetEnables) (jobRequest (· == 3) setEnablesTaken)
  | .retime => takeHead (isKind kindRetime) (jobRequest (· == 4) retimeTaken)
  | .pixels => takeHead (isKind kindPixels) (withLength (9 ≤ ·) pixelsTaken)
  | .pixelsWriteComplete => pixelsWriteCompleteEvent
  | .grant => grantEvent
  | .columnEvent lane => columnEventOf lane
  | .pacedExpiry job => pacedExpiryEvent job
  | .pageExpiry job => pageExpiryEvent job
  | .transmitEnd => transmitEndEvent
  | .character samples => characterEvent samples
  | .returnToMark => returnToMarkEvent
  | .prescaledTick job => prescaledTickEvent job

/-- Every row but those of power and reset is its event, taken under power. -/
theorem exec_cases (c : Instr) (s : State) :
    (∃ straps, c = .powerOnReset straps) ∨ (∃ straps, c = .pinReset straps) ∨ c = .lossOfPower ∨
      exec c s = .next (occur (eventOf c) s) := by
  cases c with
  | powerOnReset straps => exact .inl ⟨straps, rfl⟩
  | pinReset straps => exact .inr (.inl ⟨straps, rfl⟩)
  | lossOfPower => exact .inr (.inr (.inl rfl))
  | _ => exact .inr (.inr (.inr rfl))

/-- Every way a step can go, from the state its command runs in. -/
inductive StepCase (s t : State) : Prop
  | idle (same : t = s)
  | boot (cause : ResetCause) (straps : Straps) (booted : t = s.boot cause straps)
  | powerLost (lost : t = { s.cutOffWrite with powered := false })
  | ticked (tick : t = (s.mapJobs fun j job => job.baseTick (s.passInFlight j)).settle)
  | event (c : Instr) (u : State) (powered : s.powered = true) (due : eventOf c s = some u)
    (settled : t = u.settle)

theorem exec_stepCase {c : Instr} {s t : State} (h : exec c s = .next t) : StepCase s t := by
  obtain ⟨straps, rfl⟩ | ⟨straps, rfl⟩ | rfl | taken := exec_cases c s
  · cases h
    exact .boot _ _ rfl
  · simp only [exec, execPinReset, Host.Outcome.next.injEq] at h
    split at h
    · exact .boot _ _ h.symm
    · exact .idle h.symm
  · simp only [exec, execLossOfPower, Host.Outcome.next.injEq] at h
    split at h
    · exact .powerLost h.symm
    · exact .idle h.symm
  · rw [taken, Host.Outcome.next.injEq] at h
    obtain ⟨powered, u, due, settled⟩ | idle := occur_cases (eventOf c) s
    · exact .event c u powered due (h.symm.trans settled)
    · exact .idle (h.symm.trans idle)

theorem step_cases {s t : State} (h : step s = .next t) :
    ∃ rest, StepCase { s with pending := rest } t := by
  unfold step at h
  split at h
  · exact ⟨_, exec_stepCase h⟩
  · next empty =>
    have same : { s with pending := [] } = s := by rw [← empty]
    refine ⟨[], ?_⟩
    rw [same]
    rw [Host.Outcome.next.injEq, State.baseTick] at h
    split at h
    · exact .ticked h.symm
    · exact .idle h.symm

end Sys2Proof.Laws
end

/-! ## Events: what each row makes of the state -/

section
namespace Sys2Proof.Laws
open Sys2Proof.Machine

/-! ### Small facts about payload fields -/

theorem leNat_lt (bytes : List Byte) : leNat bytes < 256 ^ bytes.length := by
  induction bytes with
  | nil => decide
  | cons b rest ih =>
    rw [leNat, List.length_cons, pow_succ]
    have := b.isLt
    omega

theorem field_lt (payload : List Byte) (offset width : Nat) :
    field payload offset width < 256 ^ width :=
  (leNat_lt _).trans_le (Nat.pow_le_pow_right (by decide) (List.length_take_le ..))

theorem index8_eq_some {n : Nat} {j : Fin 8} : index8 n = some j ↔ n = j.val := by
  refine ⟨fun h => ?_, index8_of_eq⟩
  unfold index8 at h
  split at h
  · cases h; rfl
  · cases h

/-! ### What an event makes of one context -/

/-- What an event that is no grant, pass or commit makes of a context; `flying` tells whether the job
has a pass in flight. -/
inductive JobStep (flying : Bool) (j : Job) : Job → Prop
  | same : JobStep flying j j
  | noticed : JobStep flying j { j with noticePending := {} }
  | paused : JobStep flying j (j.pause flying)
  | resumed (taken : j.state.takesResume = true) : JobStep flying j j.resume
  | started (opened : j.state = .opened) :
    JobStep flying j ({ j with timer := j.timer.start }.enter .running)
  | continued (halted : j.state = .halted) (bare : j.withheld = none) :
    JobStep flying j (j.enter .running)
  | flagsCleared (live : j.state ≠ .free) : JobStep flying j { j with flags := {} }
  | enablesSet (taken : j.state.takesEnables = true) (halts : Conditions) (level : Nat)
    (kinds : NoticeKinds) (inRange : level ≤ 3) : JobStep flying j (j.setEnables halts level kinds)
  | retimed (live : j.state ≠ .free) (mode : TimerMode) (i : Interval) (inRange : i.InRange) :
    JobStep flying j { j with timer := j.timer.retime (j.state == .opened) mode i }
  | paced (running : j.timer.running = true) (last : j.timer.count = 1)
    (mode : j.timer.mode = .paced) : JobStep flying j (pacedExpired j flying)
  | page (running : j.timer.running = true) (last : j.timer.count = 1)
    (mode : j.timer.mode = .page) : JobStep flying j (pageExpired j flying)
  | counted (running : j.timer.running = true) (more : j.timer.count ≠ 1) :
    JobStep flying j { j with timer := j.timer.counted }
  | prescaled (running : j.timer.running = true)
    (early : j.timer.prescaler + 1 < j.timer.interval.prescale.ticks) :
    JobStep flying j { j with timer := { j.timer with prescaler := j.timer.prescaler + 1 } }

theorem baseTick_jobStep (j : Job) (flying : Bool) : JobStep flying j (j.baseTick flying) := by
  rw [baseTick_eq, ticked]
  split_ifs with stopped early more
  · exact .same
  · exact .prescaled (by simpa using stopped) early
  · exact .counted (by simpa using stopped) more
  · have running : j.timer.running = true := by simpa using stopped
    have last : j.timer.count = 1 := not_not.mp more
    cases mode : j.timer.mode with
    | paced => exact .paced running last mode
    | page => exact .page running last mode
    | off => exact .same

/-! ### What an answered request makes of the state, less its reply -/

/-- The effect of an answered request, ahead of its reply. -/
inductive Effect (s : State) : State → Prop
  | nothing : Effect s s
  | job (j : Fin 8) (v : Job) (became : JobStep (s.passInFlight j) (s.job j) v) :
    Effect s (s.setJob j v)
  | opened (j k : Fin 8) (p : Profile) (r : OpenRequest) (free : (s.job j).state = .free)
    (ready : (s.profiles[k]).content = .ready p) (inRange : openFieldFailure r = none)
    (reloads : ∀ t ∈ r.timer, t.reload ≤ 65535) : Effect s (s.setJob j (openedJob k p r))
  | freed (j : Fin 8) : Effect s (s.freeContext j)
  | resolved (j : Fin 8) (w : Withheld) (c : CommitSource) (halted : (s.job j).state = .halted)
    (withheld : (s.job j).withheld = some w)
    (source : c = acceptSource (s.job j) w ∨ c = dropSource (s.job j) w) :
    Effect s (s.commitWithheld j c)
  | requeued (j : Fin 8) (w : Withheld) (next : Pass) (index budget : Nat)
    (halted : (s.job j).state = .halted) (withheld : (s.job j).withheld = some w)
    (indexed : index = (s.job j).index ∨ index ≤ 63)
    (budgeted : budget = (s.job j).budget ∨
      ∃ asked, budget = clampBudget (s.job j).columns asked) :
    Effect s (s.setJob j ({ s.job j with index := index, budget := budget }.requeue w next))
  | drafted (k : Fin 8) (payload : List Byte) (w : GroupWrite) (writable : k ≠ 0)
    (unused : s.inUse k = 0)
    (written : writeGroup (s.profiles[k]).content.orFactory payload = .ok w) :
    Effect s (s.setContent k (.draft w.settings))
  | committed (k : Fin 8) (p : Profile) (draft : (s.profiles[k]).content = .draft p)
    (sound : commitFailure p = none) : Effect s (s.setContent k (.ready p))
  | saved (k : Fin 8) (p : Profile) (writable : k ≠ 0)
    (ready : (s.profiles[k]).content = .ready p) : Effect s (s.beginSave k p)
  | linkSet (t : Nat) (low : 1 ≤ t) (high : t ≤ 255) :
    Effect s { s with threshold := t, errorCounter := min s.errorCounter t }
  | linkCleared :
    Effect s
      { s with
        errorCounter := 0
        totals := {}
        quiet := false
        marks := { s.marks with linkQuiet := s.marks.linkQuiet || s.quiet } }

/-- The request has been answered: an effect, then a reply. -/
def Answers (f : Frame) (s u : State) : Prop :=
  ∃ v code data, Effect s v ∧ u = v.answer f code data

section
variable {f : Frame} {s u v : State} {code : ReplyCode} {data : List Byte}

theorem Effect.answers (effect : Effect s v) : Answers f s (v.answer f code data) :=
  ⟨v, code, data, effect, rfl⟩

/-- A refusal. -/
theorem answers_refusal : Answers f s (s.answer f code data) := Effect.nothing.answers

theorem answers_refuseJob {j : Fin 8} : Answers f s (s.refuseJob j f code data) := answers_refusal

theorem answers_profile {k : Fin 8} : Answers f s (s.answerProfile k f code data) := answers_refusal

end

/-! ### The decoder's row forms -/

section
variable {f : Frame} {s : State}

theorem deviceRequest_cases (length : Nat) (owner : Frame → State → State) :
    Answers f s (deviceRequest length owner f s) ∨ deviceRequest length owner f s = owner f s := by
  simp only [deviceRequest, withLength]
  split_ifs
  · exact .inr rfl
  · exact .inl answers_refusal
  · exact .inl answers_refusal

theorem jobRequest_cases (ok : Nat → Bool) (owner : Fin 8 → Frame → State → State) :
    Answers f s (jobRequest ok owner f s) ∨ ∃ j, jobRequest ok owner f s = owner j f s := by
  simp only [jobRequest, withLength]
  split
  · split
    · exact .inr ⟨_, rfl⟩
    · exact .inl answers_refusal
  · exact .inl answers_refusal

theorem profileRequest_cases (ok : Nat → Bool) (owner : Fin 8 → Frame → State → State) :
    Answers f s (profileRequest ok owner f s) ∨ ∃ k, profileRequest ok owner f s = owner k f s := by
  simp only [profileRequest, withLength]
  split
  · split
    · exact .inr ⟨_, rfl⟩
    · exact .inl answers_refusal
  · exact .inl answers_refusal

theorem deviceRequest_answers {length : Nat} {owner : Frame → State → State}
    (h : Answers f s (owner f s)) : Answers f s (deviceRequest length owner f s) := by
  obtain refused | taken := deviceRequest_cases (f := f) (s := s) length owner
  · exact refused
  · exact taken ▸ h

theorem jobRequest_answers {ok : Nat → Bool} {owner : Fin 8 → Frame → State → State}
    (h : ∀ j, Answers f s (owner j f s)) : Answers f s (jobRequest ok owner f s) := by
  obtain refused | ⟨j, taken⟩ := jobRequest_cases (f := f) (s := s) ok owner
  · exact refused
  · exact taken ▸ h j

theorem profileRequest_answers {ok : Nat → Bool} {owner : Fin 8 → Frame → State → State}
    (h : ∀ k, Answers f s (owner k f s)) : Answers f s (profileRequest ok owner f s) := by
  obtain refused | ⟨k, taken⟩ := profileRequest_cases (f := f) (s := s) ok owner
  · exact refused
  · exact taken ▸ h k

end

/-! ### The owners of the requests -/

section
variable (j k : Fin 8) (f : Frame) (s : State)

theorem linkSetTaken_answers : Answers f s (linkSetTaken f s) := by
  have small := field_lt f.payload 0 1
  exact (Effect.linkSet (max 1 (field f.payload 0 1)) (by omega) (by omega)).answers

theorem linkClearTaken_answers : Answers f s (linkClearTaken f s) :=
  Effect.linkCleared.answers

theorem profileWriteTaken_answers : Answers f s (profileWriteTaken k f s) := by
  unfold profileWriteTaken
  split_ifs with zero used busy
  · exact answers_profile
  · exact answers_profile
  · exact answers_profile
  · split
    · exact answers_profile
    · exact answers_profile
    · split
      · exact answers_profile
      · next written =>
        exact (Effect.drafted k f.payload _ zero (by omega) written).answers

theorem profileCommitTaken_answers : Answers f s (profileCommitTaken k f s) := by
  unfold profileCommitTaken
  split
  · exact answers_profile
  · exact answers_profile
  · next draft =>
    split
    · exact answers_profile
    · next sound => exact (Effect.committed k _ draft sound).answers

theorem profileReadTaken_answers : Answers f s (profileReadTaken k f s) := answers_profile

theorem profileSaveTaken_answers : Answers f s (profileSaveTaken k f s) := by
  unfold profileSaveTaken
  split_ifs with zero busy
  · exact answers_profile
  · exact answers_profile
  · split
    · next ready => exact (Effect.saved k _ zero ready).answers
    · exact answers_profile

theorem openRequestOf_reload_le (payload : List Byte) :
    ∀ t ∈ (openRequestOf payload).timer, t.reload ≤ 65535 := by
  intro t ht
  have small := field_lt payload 19 2
  simp only [openRequestOf] at ht
  split at ht
  · simp only [Option.mem_some_iff] at ht
    subst ht
    simpa using Nat.le_of_lt_succ small
  · cases ht

theorem jobOpenTaken_answers : Answers f s (jobOpenTaken j f s) := by
  simp only [jobOpenTaken]
  split_ifs with live
  · exact answers_refuseJob
  · split
    · exact answers_refuseJob
    · split
      · exact answers_refuseJob
      · exact answers_refuseJob
      · next ready =>
        split
        · exact answers_refuseJob
        · next inRange =>
          split
          · exact answers_refuseJob
          · exact (Effect.opened j _ _ _ (not_not.mp live) ready inRange
              (openRequestOf_reload_le f.payload)).answers

theorem jobStartTaken_answers : Answers f s (jobStartTaken j f s) := by
  unfold jobStartTaken
  split_ifs with other quiet
  · exact answers_refuseJob
  · exact answers_refuseJob
  · exact (Effect.job j _ (.started (not_not.mp other))).answers

theorem jobPauseTaken_answers : Answers f s (jobPauseTaken j f s) := by
  unfold jobPauseTaken
  split_ifs
  · exact (Effect.job j _ .paused).answers
  · exact answers_refuseJob

theorem jobResumeTaken_answers : Answers f s (jobResumeTaken j f s) := by
  unfold jobResumeTaken
  split_ifs with taken quiet
  · exact answers_refuseJob
  · exact (Effect.job j _ (.resumed taken)).answers
  · exact answers_refuseJob

theorem jobAbortTaken_answers : Answers f s (jobAbortTaken j f s) := by
  simp only [jobAbortTaken]
  split_ifs
  · exact answers_refuseJob
  · exact (Effect.freed j).answers

theorem jobCloseTaken_answers : Answers f s (jobCloseTaken j f s) := by
  simp only [jobCloseTaken]
  split_ifs
  · exact (Effect.freed j).answers
  · exact answers_refuseJob

theorem jobStatusTaken_answers : Answers f s (jobStatusTaken j f s) := answers_refusal

theorem clearFlagsTaken_answers : Answers f s (clearFlagsTaken j f s) := by
  unfold clearFlagsTaken
  split_ifs with free
  · exact answers_refuseJob
  · exact (Effect.job j _ (.flagsCleared free)).answers

theorem setEnablesTaken_answers : Answers f s (setEnablesTaken j f s) := by
  unfold setEnablesTaken
  split_ifs with taken
  · exact (Effect.job j _ (.enablesSet taken _ _ _ (min_le_left ..))).answers
  · exact answers_refuseJob

theorem retimeTaken_answers : Answers f s (retimeTaken j f s) := by
  have small := field_lt f.payload 1 2
  simp only [retimeTaken]
  split_ifs with free
  · exact answers_refuseJob
  · split
    · exact answers_refuseJob
    · exact answers_refuseJob
    · split_ifs
      · exact answers_refuseJob
      · refine (Effect.job j _ (.retimed free _ _ ⟨le_max_left .., ?_⟩)).answers
        simp only [retimeRequestOf]
        omega

/-! ### RESOLVE -/

theorem resolveTaken_cases (effect : Fin 8 → ResolveRequest → Frame → State → State) :
    Answers f s (resolveTaken effect j f s) ∨
      ((s.job j).state = .halted ∧
        resolveRefusal s.quiet (s.job j) (resolveRequestOf f.payload) = none ∧
        resolveTaken effect j f s = effect j (resolveRequestOf f.payload) f s) := by
  unfold resolveTaken
  split_ifs with other
  · exact .inl answers_refuseJob
  · split
    · exact .inl answers_refuseJob
    · next accepted => exact .inr ⟨not_not.mp other, accepted, rfl⟩

/-- RESOLVE in full: refused, or an action whose effect answers. -/
theorem resolve_answers {ok : Nat → Bool}
    {effect : Fin 8 → ResolveRequest → Frame → State → State}
    (h : ∀ j, (s.job j).state = .halted →
      resolveRefusal s.quiet (s.job j) (resolveRequestOf f.payload) = none →
      Answers f s (effect j (resolveRequestOf f.payload) f s)) :
    Answers f s (jobRequest ok (resolveTaken effect) f s) := by
  refine jobRequest_answers fun j => ?_
  obtain refused | ⟨halted, accepted, taken⟩ := resolveTaken_cases j f s effect
  · exact refused
  · exact taken ▸ h j halted accepted

variable {j f s}

theorem acceptEffect_answers (r : ResolveRequest) (halted : (s.job j).state = .halted)
    {w : Withheld} (withheld : (s.job j).withheld = some w) :
    Answers f s (acceptEffect j r f s) := by
  simp only [acceptEffect, withheld]
  exact (Effect.resolved j w _ halted withheld (.inl rfl)).answers

theorem dropEffect_answers (r : ResolveRequest) (halted : (s.job j).state = .halted)
    {w : Withheld} (withheld : (s.job j).withheld = some w) :
    Answers f s (dropEffect j r f s) := by
  simp only [dropEffect, withheld]
  exact (Effect.resolved j w _ halted withheld (.inr rfl)).answers

theorem retryBudget_cases (v : Job) (r : ResolveRequest) :
    retryBudget v r = v.budget ∨ ∃ asked, retryBudget v r = clampBudget v.columns asked := by
  unfold retryBudget
  split
  · exact .inl rfl
  · exact .inr ⟨_, rfl⟩

theorem retryEffect_answers {r : ResolveRequest} (halted : (s.job j).state = .halted)
    {w : Withheld} (withheld : (s.job j).withheld = some w) {next : Pass}
    (named : retryPassOf r.pass = some next) : Answers f s (retryEffect j r f s) := by
  simp only [retryEffect, withheld, named]
  exact (Effect.requeued j w next _ _ halted withheld (.inr (min_le_left ..))
    (retryBudget_cases ..)).answers

theorem degradeEffect_answers (r : ResolveRequest) (halted : (s.job j).state = .halted)
    {w : Withheld} (withheld : (s.job j).withheld = some w) :
    Answers f s (degradeEffect j r f s) := by
  simp only [degradeEffect, withheld]
  exact (Effect.requeued j w .three _ _ halted withheld (.inl rfl) (.inl rfl)).answers

theorem continueEffect_answers (r : ResolveRequest) (halted : (s.job j).state = .halted)
    (bare : (s.job j).withheld = none) : Answers f s (continueEffect j r f s) :=
  (Effect.job j _ (.continued halted bare)).answers

end

theorem resolveFieldFailure_eq_none {r : ResolveRequest} (h : resolveFieldFailure r = none) :
    actionNamed r.action = true ∧
      (r.action = actionRetry → (retryPassOf r.pass).isSome = true) := by
  unfold resolveFieldFailure at h
  split_ifs at h with unnamed unread
  refine ⟨by simpa using unnamed, fun retry => ?_⟩
  simpa [retry, Option.ne_none_iff_isSome] using unread

/-- What R123's checks leave of an accepted RESOLVE. -/
theorem resolve_accepted {quiet : Bool} {v : Job} {r : ResolveRequest}
    (accepted : resolveRefusal quiet v r = none) :
    actionNamed r.action = true ∧ (r.action = actionRetry → (retryPassOf r.pass).isSome = true) ∧
      (r.action = actionContinue → v.withheld = none) ∧
      (r.action ≠ actionContinue → ∃ w, v.withheld = some w) := by
  unfold resolveRefusal at accepted
  split at accepted
  · cases accepted
  · split at accepted
    · cases accepted
    · next fields =>
      obtain ⟨named, retry⟩ := resolveFieldFailure_eq_none fields
      refine ⟨named, retry, ?_⟩
      split at accepted
      · next bare =>
        split_ifs at accepted with goesOn
        exact ⟨fun _ => bare, fun other => absurd goesOn other⟩
      · next w withheld =>
        split_ifs at accepted with goesOn
        exact ⟨fun h => absurd h goesOn, fun _ => ⟨w, withheld⟩⟩

/-- A row of RESOLVE, accepted, runs the action its frame names. -/
theorem row_action_of_accepted {quiet : Bool} {v : Job} {f : Frame} {action : Nat}
    (mine : isResolve action f = true)
    (accepted : resolveRefusal quiet v (resolveRequestOf f.payload) = none) :
    (resolveRequestOf f.payload).action = action := by
  obtain ⟨named, -⟩ := resolve_accepted accepted
  unfold isResolve Frame.action at mine
  simpa [named] using (Bool.and_eq_true_iff.mp mine).2

/-- A row of RESOLVE other than CONTINUE. -/
theorem resolveRow_answers {ok : Nat → Bool} {action : Nat}
    {effect : Fin 8 → ResolveRequest → Frame → State → State} {f : Frame} {s : State}
    (mine : isResolve action f = true) (other : action ≠ actionContinue)
    (h : ∀ (j : Fin 8) (r : ResolveRequest) (w : Withheld), (s.job j).state = .halted →
      (s.job j).withheld = some w → r.action = action →
      (r.action = actionRetry → (retryPassOf r.pass).isSome = true) →
      Answers f s (effect j r f s)) :
    Answers f s (jobRequest ok (resolveTaken effect) f s) := by
  refine resolve_answers f s fun j halted accepted => ?_
  have named := row_action_of_accepted mine accepted
  obtain ⟨-, retry, -, present⟩ := resolve_accepted accepted
  obtain ⟨w, withheld⟩ := present (named ▸ other)
  exact h j _ w halted withheld named retry

end Sys2Proof.Laws
end

/-! ## Every way an event can go -/

section
namespace Sys2Proof.Laws
open Sys2Proof.Machine

/-- The state after a PIXELS write completes, less its reply (R92, R94). -/
def State.writeDone (s : State) (w : PixelWrite) : State :=
  { match s.slots[w.slot] with
    | some b => s.storeWritten w.slot (b.withPixels w.row w.pixels)
    | none => s with inHand := .nothing }

/-- The context of a job whose pass ends, before the decision, in its state. -/
def State.passEnded (s : State) (c : Coding) : State :=
  s.modifyJob c.pass.job fun job => job.passResults c

/-- The same pass of a job over a band, further on (R100). -/
structure SameRun (p p' : PassState) : Prop where
  job : p'.job = p.job
  slot : p'.slot = p.slot
  band : p'.band = p.band
  pass : p'.pass = p.pass
  column : p'.column = p.column
  startIndex : p'.startIndex = p.startIndex

theorem SameRun.trans {p p' p'' : PassState} (h : SameRun p p') (h' : SameRun p' p'') :
    SameRun p p'' :=
  ⟨h'.job.trans h.job, h'.slot.trans h.slot, h'.band.trans h.band, h'.pass.trans h.pass,
    h'.column.trans h.column, h'.startIndex.trans h.startIndex⟩

theorem withStream_sameRun (c : Coding) (st : Stream) : SameRun c.pass (c.withStream st).pass :=
  ⟨rfl, rfl, rfl, rfl, rfl, rfl⟩

theorem codeTile_sameRun (q : Profile) (budget : Nat) (b : BandSlot) (top : Nat) (c : Coding) :
    SameRun c.pass (c.codeTile q budget b top).pass := by
  constructor <;> simp only [Coding.codeTile, Coding.withStream]

theorem steer_sameRun (budget columns : Nat) (p : PassState) :
    SameRun p (p.steer budget columns) := by
  constructor <;> simp only [PassState.steer]

theorem columnCoded_pass (s : State) (p : PassState) (q : Profile) (b : BandSlot)
    (r : Reservation) :
    (s.columnCoded p q b r).pass =
      (Coding.codeColumn q (s.job p.job).budget b { pass := p, area := r.area }).pass.steer
        (s.job p.job).budget (s.job p.job).columns := by
  simp only [State.columnCoded]

theorem columnCoded_area (s : State) (p : PassState) (q : Profile) (b : BandSlot)
    (r : Reservation) :
    (s.columnCoded p q b r).area =
      (Coding.codeColumn q (s.job p.job).budget b { pass := p, area := r.area }).area := by
  simp only [State.columnCoded]

theorem columnCoded_sameRun (s : State) (p : PassState) (q : Profile) (b : BandSlot)
    (r : Reservation) : SameRun p (s.columnCoded p q b r).pass := by
  rw [columnCoded_pass]
  exact ((codeTile_sameRun q _ b 0 { pass := p, area := r.area }).trans
    (codeTile_sameRun q _ b 8 _)).trans (steer_sameRun ..)

theorem finish_sameRun (budget : Nat) (c : Coding) : SameRun c.pass (c.finish budget).pass :=
  withStream_sameRun ..

/-- Every way an event can go. -/
inductive Event (s : State) : State → Prop
  | unchanged : Event s s
  | answered {f : Frame} {rest : List Frame} {u : State} (ready : s.decoderReady = true)
    (head : s.inbound = f :: rest) (answers : Answers f { s with inbound := rest } u) : Event s u
  | resetAsked {f : Frame} {rest : List Frame} (ready : s.decoderReady = true)
    (head : s.inbound = f :: rest) : Event s { s with inbound := rest, inHand := .softReset }
  | recallTaken {f : Frame} {rest : List Frame} (k : Fin 8) (ready : s.decoderReady = true)
    (head : s.inbound = f :: rest) (writable : k ≠ 0) (unused : s.inUse k = 0) :
    Event s { s with inbound := rest, inHand := .recall k 0 }
  | writeBegun {f : Frame} {rest : List Frame} (q : PixelsRequest) (k : Fin 24) (b : BandSlot)
    (ready : s.decoderReady = true) (head : s.inbound = f :: rest)
    (slot : State.intakeSlot { s with inbound := rest } q = .ok (k, b))
    (data : dataRefusal b q = none) :
    Event s (State.beginWrite { s with inbound := rest } f q k b)
  | writeDone (w : PixelWrite) (data : List Byte) (writing : s.inHand = .pixels w) :
    Event s ((State.writeDone s w).post kindPixels w.unit .ok data)
  | loaded (load : StartupLoad) (passes : Bool) (loading : s.startup = some load) :
    Event s (s.loadRead load passes)
  | recalled (k : Fin 8) (attempts : Nat) (passes : Bool) (idle : s.startup = none)
    (recalling : s.inHand = .recall k attempts) : Event s (s.recallRead k attempts passes)
  | saveEnded (w : SaveWrite) (passes : Bool) (r : SaveResult) (saving : s.saving = some w) :
    Event s
      { s.setRecord w.slot (recordAfterWrite (s.record w.slot) w.contents passes) with
        saving := none
        profiles := s.profiles.set w.slot { s.profiles[w.slot] with lastSave := some r }
        lastSave := some (w.slot, r)
        marks := { s.marks with saveDone := true } }
  | reset : Event s s.softResetValues
  | received (b : Byte) (framing noisy : Bool) (mode : ReceiverMode) :
    Event s
      { s with reception := some (receiveByte s.reception b framing noisy), receiver := mode }
  | broken : Event s s.breakReceived
  | atMark : Event s { s with receiver := .waiting }
  | goodFrame (f : Frame) (noisy : Bool) :
    Event s (State.goodFrame { s with reception := none, receiver := .waiting } f noisy)
  | badFrame : Event s (State.badFrame { s with reception := none, receiver := .waiting })
  | replySent : Event s { s with transmitter := none, replies := s.replies.tail }
  | noticeSent : Event s { s with transmitter := none }
  | segmentSent (n : Nat) :
    Event s { s with transmitter := none, records := advanceRecords n s.records }
  | timed (j : Fin 8) (v : Job) (became : JobStep (s.passInFlight j) (s.job j) v) :
    Event s (s.setJob j v)
  | granted (l : Fin 2) (j : Fin 8) (others : List (Fin 8)) (k : Fin 24) (rest : List (Fin 24))
    (lane : s.lanes[l] = none) (head : s.candidates = j :: others)
    (ready : (s.job j).ready = k :: rest) (room : (s.job j).budget + 16 ≤ s.freeSpace) :
    Event s (s.grantTo l j k rest)
  | wentOn {l : Fin 2} {p : PassState} {b : BandSlot} {q : Profile} {r : Reservation}
    {c : Coding} (coded : Coded s l p b q r) (coding : s.columnCoded p q b r = c)
    (fits : c.pass.overMark = false) (more : p.column + 1 < (s.job p.job).columns) :
    Event s (s.nextColumn l c)
  | halted {l : Fin 2} {p : PassState} {b : BandSlot} {q : Profile} {r : Reservation}
    {c d : Coding} (coded : Coded s l p b q r) (coding : s.columnCoded p q b r = c)
    (ends : endsHere s c) (ended : c.finish (s.job p.job).budget = d) :
    Event s ((State.passEnded s d).haltPass l d.pass)
  | climbed {l : Fin 2} {p : PassState} {b : BandSlot} {q : Profile} {r : Reservation}
    {c d : Coding} (coded : Coded s l p b q r) (coding : s.columnCoded p q b r = c)
    (ended : c.finish (s.job p.job).budget = d) : Event s ((State.passEnded s d).climb l d.pass)
  | committed {l : Fin 2} {p : PassState} {b : BandSlot} {q : Profile} {r : Reservation}
    {c d : Coding} (coded : Coded s l p b q r) (coding : s.columnCoded p q b r = c)
    (ended : c.finish (s.job p.job).budget = d) : Event s ((State.passEnded s d).commitPass l d)

/-! ### The events that are requests -/

section
variable {s u : State}

/-- A row of the decoder whose handler answers. -/
theorem row_event {mine : Frame → Bool} {handle : Frame → State → State}
    (due : takeHead mine handle s = some u)
    (h : ∀ f v, mine f = true → Answers f v (handle f v)) : Event s u := by
  obtain ⟨ready, f, rest, head, isMine, rfl⟩ := takeHead_eq_some.mp due
  exact .answered ready head (h f _ isMine)

theorem softReset_event
    (due : takeHead (isKind kindSoftReset) (deviceRequest 0 softResetTaken) s = some u) :
    Event s u := by
  obtain ⟨ready, f, rest, head, -, rfl⟩ := takeHead_eq_some.mp due
  obtain refused | taken := deviceRequest_cases (f := f) (s := { s with inbound := rest }) 0
    softResetTaken
  · exact .answered ready head refused
  · exact taken ▸ .resetAsked ready head

theorem profileRecall_event
    (due : takeHead (isKind kindProfileRecall)
      (profileRequest (· == 0) profileRecallTaken) s = some u) : Event s u := by
  obtain ⟨ready, f, rest, head, -, rfl⟩ := takeHead_eq_some.mp due
  obtain refused | ⟨k, taken⟩ := profileRequest_cases (f := f) (s := { s with inbound := rest })
    (· == 0) profileRecallTaken
  · exact .answered ready head refused
  · rw [taken, profileRecallTaken]
    split_ifs with zero used busy
    · exact .answered ready head answers_profile
    · exact .answered ready head answers_profile
    · exact .answered ready head answers_profile
    · exact .recallTaken k ready head zero (Nat.eq_zero_of_not_pos used)

theorem pixels_event
    (due : takeHead (isKind kindPixels) (withLength (9 ≤ ·) pixelsTaken) s = some u) :
    Event s u := by
  obtain ⟨ready, f, rest, head, -, rfl⟩ := takeHead_eq_some.mp due
  simp only [withLength, pixelsTaken]
  split
  · split
    · exact .answered ready head answers_refusal
    · next slot =>
      split
      · exact .answered ready head answers_refusal
      · next data => exact .writeBegun _ _ _ ready head slot data
  · exact .answered ready head answers_refusal

theorem retry_answers (f : Frame) (v : State) (mine : isResolve actionRetry f = true) :
    Answers f v (jobRequest (· == 7) (resolveTaken retryEffect) f v) := by
  refine resolveRow_answers mine (by decide) ?_
  intro j r w halted withheld action named
  obtain ⟨next, named⟩ := Option.isSome_iff_exists.mp (named action)
  exact retryEffect_answers halted withheld named

theorem continue_answers (f : Frame) (v : State) (mine : isResolve actionContinue f = true) :
    Answers f v (jobRequest (· == 7) (resolveTaken continueEffect) f v) := by
  refine resolve_answers f v fun j halted accepted => ?_
  obtain ⟨-, -, bare, -⟩ := resolve_accepted accepted
  exact continueEffect_answers _ halted (bare (row_action_of_accepted mine accepted))

/-- The rows of a request but for the three that can leave something in hand answer it (R159). -/
theorem row_answers {c : Instr} {k : Byte} (kind : requestKind c = some k)
    (plain : c ≠ .softReset ∧ c ≠ .profileRecall ∧ c ≠ .pixels) :
    ∃ mine handle, eventOf c = takeHead mine handle ∧
      ∀ f v, mine f = true → Answers f v (handle f v) := by
  obtain ⟨reset, recalls, pixels⟩ := plain
  cases c with
  | inquire => exact ⟨_, _, rfl, fun _ _ _ => deviceRequest_answers answers_refusal⟩
  | linkSet => exact ⟨_, _, rfl, fun _ _ _ => deviceRequest_answers (linkSetTaken_answers ..)⟩
  | linkClear => exact ⟨_, _, rfl, fun _ _ _ => deviceRequest_answers (linkClearTaken_answers ..)⟩
  | linkStatus => exact ⟨_, _, rfl, fun _ _ _ => deviceRequest_answers answers_refusal⟩
  | profileWrite =>
    exact ⟨_, _, rfl, fun _ _ _ => profileRequest_answers (profileWriteTaken_answers · ..)⟩
  | profileCommit =>
    exact ⟨_, _, rfl, fun _ _ _ => profileRequest_answers (profileCommitTaken_answers · ..)⟩
  | profileRead =>
    exact ⟨_, _, rfl, fun _ _ _ => profileRequest_answers (profileReadTaken_answers · ..)⟩
  | profileSave =>
    exact ⟨_, _, rfl, fun _ _ _ => profileRequest_answers (profileSaveTaken_answers · ..)⟩
  | jobOpen => exact ⟨_, _, rfl, fun _ _ _ => jobRequest_answers (jobOpenTaken_answers · ..)⟩
  | jobStart => exact ⟨_, _, rfl, fun _ _ _ => jobRequest_answers (jobStartTaken_answers · ..)⟩
  | jobPause => exact ⟨_, _, rfl, fun _ _ _ => jobRequest_answers (jobPauseTaken_answers · ..)⟩
  | jobResume => exact ⟨_, _, rfl, fun _ _ _ => jobRequest_answers (jobResumeTaken_answers · ..)⟩
  | accept =>
    exact ⟨_, _, rfl, fun _ _ mine => resolveRow_answers mine (by decide)
      fun _ r _ halted withheld _ _ => acceptEffect_answers r halted withheld⟩
  | retry => exact ⟨_, _, rfl, retry_answers⟩
  | degrade =>
    exact ⟨_, _, rfl, fun _ _ mine => resolveRow_answers mine (by decide)
      fun _ r _ halted withheld _ _ => degradeEffect_answers r halted withheld⟩
  | drop =>
    exact ⟨_, _, rfl, fun _ _ mine => resolveRow_answers mine (by decide)
      fun _ r _ halted withheld _ _ => dropEffect_answers r halted withheld⟩
  | continueJob => exact ⟨_, _, rfl, continue_answers⟩
  | jobAbort => exact ⟨_, _, rfl, fun _ _ _ => jobRequest_answers (jobAbortTaken_answers · ..)⟩
  | jobClose => exact ⟨_, _, rfl, fun _ _ _ => jobRequest_answers (jobCloseTaken_answers · ..)⟩
  | jobStatus => exact ⟨_, _, rfl, fun _ _ _ => jobRequest_answers (jobStatusTaken_answers · ..)⟩
  | clearFlags => exact ⟨_, _, rfl, fun _ _ _ => jobRequest_answers (clearFlagsTaken_answers · ..)⟩
  | setEnables => exact ⟨_, _, rfl, fun _ _ _ => jobRequest_answers (setEnablesTaken_answers · ..)⟩
  | retime => exact ⟨_, _, rfl, fun _ _ _ => jobRequest_answers (retimeTaken_answers · ..)⟩
  | softReset => exact absurd rfl reset
  | profileRecall => exact absurd rfl recalls
  | pixels => exact absurd rfl pixels
  | _ => cases kind

theorem request_event {c : Instr} {k : Byte} (kind : requestKind c = some k)
    (due : eventOf c s = some u) : Event s u := by
  by_cases reset : c = .softReset
  · subst reset
    exact softReset_event due
  by_cases recalls : c = .profileRecall
  · subst recalls
    exact profileRecall_event due
  by_cases pixels : c = .pixels
  · subst pixels
    exact pixels_event due
  obtain ⟨mine, handle, event, answers⟩ := row_answers kind ⟨reset, recalls, pixels⟩
  rw [event] at due
  exact row_event due answers

/-! ### The other events -/

theorem recordRead_event {passes : Bool} (due : recordReadEvent passes s = some u) :
    Event s u := by
  unfold recordReadEvent at due
  split at due
  · next load loading =>
    cases due
    exact .loaded load passes loading
  · next idle =>
    split at due
    · next recalling =>
      cases due
      exact .recalled _ _ passes idle recalling
    · cases due

theorem saveCompletion_event {passes : Bool} (due : saveCompletionEvent passes s = some u) :
    Event s u := by
  unfold saveCompletionEvent at due
  split at due
  · cases due
  · next saving =>
    cases due
    exact .saveEnded _ passes _ saving

theorem break_event (due : breakEvent s = some u) : Event s u := by
  unfold breakEvent at due
  split at due
  · cases due
    exact .broken
  · cases due

theorem character_event {samples : CharacterSamples} (due : characterEvent samples s = some u) :
    Event s u := by
  unfold characterEvent at due
  split at due
  · next waiting =>
    split at due
    · cases due
      exact .unchanged
    · cases due
      exact .received _ _ _ s.receiver
    · cases due
      exact .received ..
    · cases due
      exact .broken
  · cases due

theorem frameClose_event (due : frameCloseEvent s = some u) : Event s u := by
  unfold frameCloseEvent at due
  split at due
  · cases due
  · simp only at due
    split at due
    · cases due
      exact .goodFrame ..
    · cases due
      exact .badFrame

theorem returnToMark_event (due : returnToMarkEvent s = some u) : Event s u := by
  unfold returnToMarkEvent at due
  split at due
  · cases due
  · cases due
    exact .atMark

theorem softResetEvent_event (due : softResetEvent s = some u) : Event s u := by
  unfold softResetEvent at due
  split at due
  · cases due
    exact .reset
  · cases due

theorem transmitEnd_event (due : transmitEndEvent s = some u) : Event s u := by
  unfold transmitEndEvent at due
  split at due
  · cases due
  · split at due
    · cases due
      exact .replySent
    · cases due
      exact .noticeSent
    · cases due
      exact .segmentSent _

theorem pixelsWriteComplete_event (due : pixelsWriteCompleteEvent s = some u) : Event s u := by
  unfold pixelsWriteCompleteEvent at due
  split at due
  · next writing =>
    cases due
    exact .writeDone _ _ writing
  · cases due

theorem expiresNext_iff (t : Timer) : t.expiresNext = true ↔ t.running = true ∧ t.count = 1 := by
  simp [Timer.expiresNext]

theorem pacedExpiry_event {j : Fin 8} (due : pacedExpiryEvent j s = some u) : Event s u := by
  unfold pacedExpiryEvent at due
  split at due
  · next expires =>
    obtain ⟨running, last⟩ := (expiresNext_iff _).mp expires.1
    cases due
    refine .timed j _ ?_
    simp only [pacedExpiry_eq]
    exact .paced running last expires.2
  · cases due

theorem pageExpiry_event {j : Fin 8} (due : pageExpiryEvent j s = some u) : Event s u := by
  unfold pageExpiryEvent at due
  split at due
  · next expires =>
    obtain ⟨running, last⟩ := (expiresNext_iff _).mp expires.1
    cases due
    refine .timed j _ ?_
    simp only [pageExpiry_eq]
    exact .page running last expires.2
  · cases due

theorem prescaledTick_event {j : Fin 8} (due : prescaledTickEvent j s = some u) : Event s u := by
  unfold prescaledTickEvent at due
  split at due
  · next ticks =>
    cases due
    exact .timed j _ (.counted ticks.1 (by omega))
  · cases due

/-! ### Grants and columns -/

theorem idleLane_eq_some {l : Fin 2} (h : s.idleLane = some l) : s.lanes[l] = none := by
  unfold State.idleLane at h
  split_ifs at h with zero one
  · cases h
    exact Option.isNone_iff_eq_none.mp zero
  · cases h
    exact Option.isNone_iff_eq_none.mp one

theorem grant_event (due : grantEvent s = some u) : Event s u := by
  unfold grantEvent at due
  split at due
  · next lane head =>
    split at due
    · next ready =>
      split at due
      · next room =>
        cases due
        exact .granted _ _ _ _ _ (idleLane_eq_some lane) head ready room
      · cases due
    · cases due
  · cases due

theorem endPass_event {l : Fin 2} {p : PassState} {b : BandSlot} {q : Profile} {r : Reservation}
    {c : Coding} (coded : Coded s l p b q r) (coding : s.columnCoded p q b r = c)
    (ends : endsHere s c) : Event s (s.endPass l c) := by
  have job : c.pass.job = p.job := coding ▸ (columnCoded_sameRun s p q b r).job
  unfold State.endPass
  rw [job]
  generalize ended : c.finish (s.job p.job).budget = d
  have last : d.pass.job = p.job := ended ▸ job
  rw [← last]
  simp only [State.decidePass]
  split_ifs
  · exact .halted coded coding ends ended
  · exact .climbed coded coding ended
  · exact .committed coded coding ended

theorem columnEvent_event {l : Fin 2} (powered : s.powered = true)
    (due : columnEventOf l s = some u) : Event s u := by
  unfold columnEventOf at due
  split at due
  · cases due
  · next p lane =>
    split at due
    · next b q r band profile reserved =>
      have coded : Coded s l p b q r := ⟨powered, lane, band, profile, reserved⟩
      have run := columnCoded_sameRun s p q b r
      generalize coding : s.columnCoded p q b r = c at due run
      simp only [run.column] at due
      split_ifs at due with ends
      · cases due
        refine endPass_event coded coding ?_
        simpa [endsHere, run.job, run.column] using ends
      · cases due
        rw [Bool.or_eq_true, not_or, Bool.not_eq_true, decide_eq_true_iff, Nat.not_le] at ends
        exact .wentOn coded coding ends.1 ends.2
    · cases due

end

/-! ### All events -/

theorem event_cases {c : Instr} {s u : State} (powered : s.powered = true)
    (due : eventOf c s = some u) : Event s u := by
  cases kind : requestKind c with
  | some k => exact request_event kind due
  | none =>
    cases c with
    | powerOnReset straps => cases due
    | pinReset straps => cases due
    | lossOfPower => cases due
    | recordRead passes => exact recordRead_event due
    | saveCompletion passes => exact saveCompletion_event due
    | breakCharacter => exact break_event due
    | frameClose => exact frameClose_event due
    | unknownKind =>
      exact row_event (handle := fun f s => s.answer f .unknownKind []) due
        fun _ _ _ => answers_refusal
    | softResetEvent => exact softResetEvent_event due
    | pixelsWriteComplete => exact pixelsWriteComplete_event due
    | grant => exact grant_event due
    | columnEvent lane => exact columnEvent_event powered due
    | pacedExpiry job => exact pacedExpiry_event due
    | pageExpiry job => exact pageExpiry_event due
    | transmitEnd => exact transmitEnd_event due
    | character samples => exact character_event due
    | returnToMark => exact returnToMark_event due
    | prescaledTick job => exact prescaledTick_event due
    | _ => cases kind

end Sys2Proof.Laws
end

/-! ## What settles after an event -/

section
namespace Sys2Proof.Laws
open Sys2Proof.Machine

theorem choose_job (s : State) (j : Fin 8) :
    s.choose.job j = s.job j ∨ s.choose.job j = { s.job j with noticePending := {} } := by
  unfold State.choose
  split
  · exact .inl rfl
  · split_ifs
    · exact .inl rfl
    · exact .inl rfl
    · exact .inl rfl
    · split
      · rw [job_modifyJob]
        split_ifs
        · exact .inr rfl
        · exact .inl rfl
      · split
        · exact .inl rfl
        · exact .inl rfl

theorem settle_job (s : State) (j : Fin 8) :
    s.settle.job j = s.job j ∨ s.settle.job j = { s.job j with noticePending := {} } := by
  unfold State.settle State.arbitrate
  split
  · exact choose_job s.updateCandidates j
  · exact .inl rfl

/-- A job's settling is a step of it: at most its notice marks are cleared. -/
theorem settle_jobStep (s : State) (flying : Bool) (j : Fin 8) :
    JobStep flying (s.job j) (s.settle.job j) := by
  obtain same | noticed := settle_job s j
  · exact same ▸ .same
  · exact noticed ▸ .noticed

theorem choose_frame (s : State) :
    s.choose =
      { s with
        transmitter := s.choose.transmitter, marks := s.choose.marks, jobs := s.choose.jobs } := by
  unfold State.choose
  (repeat' split) <;> rfl

/-- Settles O5: the arbiter's choice changes the transmitter, a device mark or a job's notice marks. -/
theorem settleFrame : Obligations.SettleFrame := by
  intro s
  constructor
  · unfold State.settle State.arbitrate
    split
    · rw [choose_candidates]
      exact choose_frame s.updateCandidates
    · rfl
  · intro j
    obtain same | noticed := settle_job s j
    · rw [same]
    · rw [noticed]

end Sys2Proof.Laws
end

/-! ## What an event makes of the coding part: contexts, slots, lanes, records -/

section
namespace Sys2Proof.Laws
open Sys2Proof.Machine

/-- The states agree on contexts, slots, lanes, candidates and records, and on the write in hand. -/
structure SameCore (s u : State) : Prop where
  jobs : u.jobs = s.jobs
  slots : u.slots = s.slots
  lanes : u.lanes = s.lanes
  candidates : u.candidates = s.candidates
  records : u.records = s.records
  writing : u.writing = s.writing

/-- Every way a step can change the coding part, before what settles. -/
inductive CoreCase (s u : State) : Prop
  | jobs (slots : u.slots = s.slots) (lanes : u.lanes = s.lanes)
    (candidates : u.candidates = s.candidates)
    (records : u.records = s.records) (writing : u.writing = s.writing)
    (became : ∀ j, JobStep (s.passInFlight j) (s.job j) (u.job j))
  | opened (j k : Fin 8) (p : Profile) (r : OpenRequest) (free : (s.job j).state = .free)
    (ready : (s.profiles[k]).content = .ready p) (inRange : openFieldFailure r = none)
    (reloads : ∀ t ∈ r.timer, t.reload ≤ 65535)
    (taken : s.inHand = .nothing ∧ s.startup = none)
    (becomes : SameCore (s.setJob j (openedJob k p r)) u)
  | freed (j : Fin 8) (idle : s.writing = none) (becomes : SameCore (s.freeContext j) u)
  | resolved (j : Fin 8) (w : Withheld) (c : CommitSource) (halted : (s.job j).state = .halted)
    (withheld : (s.job j).withheld = some w)
    (source : c = acceptSource (s.job j) w ∨ c = dropSource (s.job j) w)
    (becomes : SameCore (s.commitWithheld j c) u)
  | requeued (j : Fin 8) (w : Withheld) (next : Pass) (index budget : Nat)
    (halted : (s.job j).state = .halted) (withheld : (s.job j).withheld = some w)
    (indexed : index = (s.job j).index ∨ index ≤ 63)
    (budgeted : budget = (s.job j).budget ∨
      ∃ asked, budget = clampBudget (s.job j).columns asked)
    (becomes : SameCore
      (s.setJob j ({ s.job j with index := index, budget := budget }.requeue w next)) u)
  | writeBegun (f : Frame) (q : PixelsRequest) (k : Fin 24) (b : BandSlot)
    (idle : s.writing = none) (slot : s.intakeSlot q = .ok (k, b)) (data : dataRefusal b q = none)
    (becomes : SameCore (s.beginWrite f q k b) u)
  | writeDone (w : PixelWrite) (writing : s.inHand = .pixels w)
    (becomes : SameCore (State.writeDone s w) u)
  | sent (n : Nat) (becomes : SameCore { s with records := advanceRecords n s.records } u)
  | granted (l : Fin 2) (j : Fin 8) (others : List (Fin 8)) (k : Fin 24) (rest : List (Fin 24))
    (lane : s.lanes[l] = none) (head : s.candidates = j :: others)
    (ready : (s.job j).ready = k :: rest) (room : (s.job j).budget + 16 ≤ s.freeSpace)
    (becomes : u = s.grantTo l j k rest)
  | wentOn {l : Fin 2} {p : PassState} {b : BandSlot} {q : Profile} {r : Reservation}
    {c : Coding} (coded : Coded s l p b q r) (coding : s.columnCoded p q b r = c)
    (fits : c.pass.overMark = false) (more : p.column + 1 < (s.job p.job).columns)
    (becomes : u = s.nextColumn l c)
  | halted {l : Fin 2} {p : PassState} {b : BandSlot} {q : Profile} {r : Reservation}
    {c d : Coding} (coded : Coded s l p b q r) (coding : s.columnCoded p q b r = c)
    (ends : endsHere s c) (ended : c.finish (s.job p.job).budget = d)
    (becomes : u = (State.passEnded s d).haltPass l d.pass)
  | climbed {l : Fin 2} {p : PassState} {b : BandSlot} {q : Profile} {r : Reservation}
    {c d : Coding} (coded : Coded s l p b q r) (coding : s.columnCoded p q b r = c)
    (ended : c.finish (s.job p.job).budget = d)
    (becomes : u = (State.passEnded s d).climb l d.pass)
  | committed {l : Fin 2} {p : PassState} {b : BandSlot} {q : Profile} {r : Reservation}
    {c d : Coding} (coded : Coded s l p b q r) (coding : s.columnCoded p q b r = c)
    (ended : c.finish (s.job p.job).budget = d)
    (becomes : u = (State.passEnded s d).commitPass l d)
  | reset (becomes : SameCore State.reset u)

section
variable {s u v : State}

theorem CoreCase.same (h : SameCore s u) : CoreCase s u := by
  refine .jobs h.slots h.lanes h.candidates h.records h.writing fun j => ?_
  rw [State.job, State.job, h.jobs]
  exact .same

/-- One context has taken a step. -/
theorem CoreCase.job {j : Fin 8} {v : Job} (became : JobStep (s.passInFlight j) (s.job j) v)
    (h : SameCore (s.setJob j v) u) : CoreCase s u := by
  refine .jobs h.slots h.lanes h.candidates h.records h.writing fun i => ?_
  have same : u.job i = (s.setJob j v).job i := by rw [State.job, h.jobs]; rfl
  rw [same, job_setJob]
  split_ifs with here
  · exact here ▸ became
  · exact .same

theorem writing_of_ready (ready : s.decoderReady = true) : s.writing = none := by
  obtain ⟨-, -, idle, -⟩ := (decoderReady_iff s).mp ready
  simp [State.writing, idle]

theorem SameCore.refl (s : State) : SameCore s s := ⟨rfl, rfl, rfl, rfl, rfl, rfl⟩

/-- An answered request, by its effect. -/
theorem Effect.core (effect : Effect s v) (ready : s.decoderReady = true) (h : SameCore v u) :
    CoreCase s u := by
  cases effect with
  | nothing => exact .same h
  | job j v became => exact .job became h
  | opened j k p r free content inRange reloads =>
    obtain ⟨-, loaded, idle, -⟩ := (decoderReady_iff s).mp ready
    exact .opened j k p r free content inRange reloads ⟨idle, loaded⟩ h
  | freed j => exact .freed j (writing_of_ready ready) h
  | resolved j w c halted withheld source => exact .resolved j w c halted withheld source h
  | requeued j w next index budget halted withheld indexed budgeted =>
    exact .requeued j w next index budget halted withheld indexed budgeted h
  | drafted k payload w writable unused written =>
    exact .same ⟨h.jobs, h.slots, h.lanes, h.candidates, h.records, h.writing⟩
  | committed k p draft sound =>
    exact .same ⟨h.jobs, h.slots, h.lanes, h.candidates, h.records, h.writing⟩
  | saved k p writable ready =>
    exact .same ⟨h.jobs, h.slots, h.lanes, h.candidates, h.records, h.writing⟩
  | linkSet t low high =>
    exact .same ⟨h.jobs, h.slots, h.lanes, h.candidates, h.records, h.writing⟩
  | linkCleared =>
    exact .same ⟨h.jobs, h.slots, h.lanes, h.candidates, h.records, h.writing⟩

/-- A read of the start-up load leaves the coding part alone. -/
theorem loadRead_sameCore (load : StartupLoad) (passes : Bool) :
    SameCore s (s.loadRead load passes) := by
  have next (v : State) (k : Fin 8) (h : SameCore s v) : SameCore s (v.loadNext k) := by
    unfold State.loadNext
    split
    · exact ⟨h.jobs, h.slots, h.lanes, h.candidates, h.records, h.writing⟩
    · exact ⟨h.jobs, h.slots, h.lanes, h.candidates, h.records, h.writing⟩
  unfold State.loadRead
  split
  · exact next _ _ ⟨rfl, rfl, rfl, rfl, rfl, rfl⟩
  · exact next _ _ ⟨rfl, rfl, rfl, rfl, rfl, rfl⟩
  · split
    · exact ⟨rfl, rfl, rfl, rfl, rfl, rfl⟩
    · exact next _ _ ⟨rfl, rfl, rfl, rfl, rfl, rfl⟩

/-- A read of a RECALL in hand leaves the coding part alone. -/
theorem recallRead_sameCore {k : Fin 8} {attempts : Nat} (passes : Bool)
    (recalling : s.inHand = .recall k attempts) :
    SameCore s (s.recallRead k attempts passes) := by
  have idle : s.writing = none := by simp [State.writing, recalling]
  unfold State.recallRead
  split
  · exact ⟨rfl, rfl, rfl, rfl, rfl, idle.symm⟩
  · exact ⟨rfl, rfl, rfl, rfl, rfl, idle.symm⟩
  · split
    · exact ⟨rfl, rfl, rfl, rfl, rfl, idle.symm⟩
    · exact ⟨rfl, rfl, rfl, rfl, rfl, idle.symm⟩

theorem goodFrame_sameCore (f : Frame) (noisy : Bool) : SameCore s (s.goodFrame f noisy) := by
  unfold State.goodFrame
  split
  · exact ⟨rfl, rfl, rfl, rfl, rfl, rfl⟩
  · exact ⟨rfl, rfl, rfl, rfl, rfl, rfl⟩

theorem SameCore.job (h : SameCore s u) (j : Fin 8) : u.job j = s.job j := by
  rw [State.job, State.job, h.jobs]

theorem SameCore.coding (h : SameCore s u) (j : Fin 8) : u.coding j = s.coding j := by
  unfold State.coding
  rw [h.lanes]

theorem SameCore.passInFlight (h : SameCore s u) (j : Fin 8) :
    u.passInFlight j = s.passInFlight j := by
  rw [State.passInFlight, h.coding, State.passInFlight]

/-- An increment of the error counter at most pauses jobs (R160, R161). -/
theorem linkIncrement_core (h : SameCore s v) : CoreCase s v.linkIncrement := by
  unfold State.linkIncrement
  split_ifs
  · exact .same ⟨h.jobs, h.slots, h.lanes, h.candidates, h.records, h.writing⟩
  · exact .same h
  · refine .jobs h.slots h.lanes h.candidates h.records h.writing fun j => ?_
    have paused : v.enterQuiet.job j = (v.job j).pause (v.passInFlight j) := job_mapJobs v _ j
    rw [paused, h.job, h.passInFlight]
    exact .paused

/-- Every event, by what it makes of the coding part; a request has left the inbound queue. -/
theorem Event.core (event : Event s u) :
    ∃ inbound, CoreCase { s with inbound := inbound } u := by
  cases event with
  | unchanged => exact ⟨_, .same (.refl s)⟩
  | answered ready head answers =>
    obtain ⟨v, code, data, effect, rfl⟩ := answers
    exact ⟨_, effect.core ready ⟨rfl, rfl, rfl, rfl, rfl, rfl⟩⟩
  | resetAsked ready head =>
    exact ⟨_, .same ⟨rfl, rfl, rfl, rfl, rfl, (writing_of_ready ready).symm⟩⟩
  | recallTaken k ready head writable unused =>
    exact ⟨_, .same ⟨rfl, rfl, rfl, rfl, rfl, (writing_of_ready ready).symm⟩⟩
  | @writeBegun f rest q k b ready head slot data =>
    exact ⟨rest, .writeBegun f q k b (writing_of_ready ready) slot data (.refl _)⟩
  | writeDone w data writing =>
    exact ⟨s.inbound, .writeDone w writing ⟨rfl, rfl, rfl, rfl, rfl, rfl⟩⟩
  | loaded load passes loading => exact ⟨s.inbound, .same (loadRead_sameCore load passes)⟩
  | recalled k attempts passes idle recalling =>
    exact ⟨s.inbound, .same (recallRead_sameCore passes recalling)⟩
  | saveEnded w passes r saving =>
    exact ⟨s.inbound, .same ⟨setRecord_jobs .., setRecord_slots .., setRecord_lanes ..,
      setRecord_candidates .., setRecord_records .., by simp [State.writing]⟩⟩
  | reset =>
    exact ⟨s.inbound, .reset ⟨rfl, rfl, rfl, rfl, rfl, rfl⟩⟩
  | received b framing noisy mode =>
    exact ⟨s.inbound, .same ⟨rfl, rfl, rfl, rfl, rfl, rfl⟩⟩
  | broken => exact ⟨s.inbound, .same ⟨rfl, rfl, rfl, rfl, rfl, rfl⟩⟩
  | atMark => exact ⟨s.inbound, .same ⟨rfl, rfl, rfl, rfl, rfl, rfl⟩⟩
  | goodFrame f noisy =>
    have same := goodFrame_sameCore (s := { s with reception := none, receiver := .waiting }) f
      noisy
    exact ⟨s.inbound, .same
      ⟨same.jobs, same.slots, same.lanes, same.candidates, same.records, same.writing⟩⟩
  | badFrame =>
    exact ⟨s.inbound, linkIncrement_core ⟨rfl, rfl, rfl, rfl, rfl, rfl⟩⟩
  | replySent => exact ⟨s.inbound, .same ⟨rfl, rfl, rfl, rfl, rfl, rfl⟩⟩
  | noticeSent => exact ⟨s.inbound, .same ⟨rfl, rfl, rfl, rfl, rfl, rfl⟩⟩
  | segmentSent n => exact ⟨s.inbound, .sent n ⟨rfl, rfl, rfl, rfl, rfl, rfl⟩⟩
  | timed j v became => exact ⟨s.inbound, .job became (.refl _)⟩
  | granted l j others k rest lane head ready room =>
    exact ⟨s.inbound, .granted l j others k rest lane head ready room rfl⟩
  | wentOn coded coding fits more => exact ⟨s.inbound, .wentOn coded coding fits more rfl⟩
  | halted coded coding ends ended => exact ⟨s.inbound, .halted coded coding ends ended rfl⟩
  | climbed coded coding ended => exact ⟨s.inbound, .climbed coded coding ended rfl⟩
  | committed coded coding ended => exact ⟨s.inbound, .committed coded coding ended rfl⟩

/-- What settles is, for the coding part, a step of contexts. -/
theorem settle_jobSteps (u : State) (j : Fin 8) :
    JobStep (u.passInFlight j) (u.job j) (u.settle.job j) :=
  settle_jobStep u _ j

/-- How the step's result stands to the state its event left: settled, or, where no event was due
and where power comes or goes, as it is. -/
def Settles (s u t : State) : Prop :=
  t = u.settle ∨ t = u ∧ (SameCore s u ∨ SameCore State.reset u)

theorem StepCase.core {t : State} (h : StepCase s t) :
    ∃ inbound u, CoreCase { s with inbound := inbound } u ∧ Settles s u t := by
  cases h with
  | idle same =>
    subst same
    exact ⟨t.inbound, t, .same (.refl t), .inr ⟨rfl, .inl (.refl t)⟩⟩
  | boot cause straps booted =>
    have reset : SameCore State.reset t := by
      subst booted
      exact ⟨rfl, rfl, rfl, rfl, rfl, rfl⟩
    exact ⟨s.inbound, t, .reset reset, .inr ⟨rfl, .inr reset⟩⟩
  | powerLost lost =>
    have same : SameCore s t := by
      subst lost
      exact ⟨cutOffWrite_jobs _, cutOffWrite_slots _, cutOffWrite_lanes _,
        cutOffWrite_candidates _, cutOffWrite_records _, by simp [State.writing]⟩
    exact ⟨s.inbound, t, .same same, .inr ⟨rfl, .inl same⟩⟩
  | ticked tick =>
    refine ⟨s.inbound, s.mapJobs fun j job => job.baseTick (s.passInFlight j),
      .jobs rfl rfl rfl rfl rfl fun j => ?_, .inl tick⟩
    rw [job_mapJobs]
    exact baseTick_jobStep ..
  | event c u powered due settled =>
    obtain ⟨inbound, core⟩ := (event_cases powered due).core
    exact ⟨inbound, u, core, .inl settled⟩

/-- Every step, by what it makes of the coding part: a case, then what settles. The command has left
the queue, and a request the inbound queue. -/
theorem step_core {t : State} (h : step s = .next t) :
    ∃ pending inbound u, CoreCase { s with pending := pending, inbound := inbound } u ∧
      Settles { s with pending := pending } u t := by
  obtain ⟨rest, stepped⟩ := step_cases h
  obtain ⟨inbound, u, core, settles⟩ := stepped.core
  exact ⟨rest, inbound, u, core, settles⟩

end

end Sys2Proof.Laws
end

/-! ## What a step of one context keeps and moves -/

section
namespace Sys2Proof.Laws
open Sys2Proof.Machine

/-- The context's geometry, rate and band fields: what a context keeps but for grants, passes and
commits (R62, R63). -/
structure SameJob (v v' : Job) : Prop where
  profile : v'.profile = v.profile
  width : v'.width = v.width
  height : v'.height = v.height
  columns : v'.columns = v.columns
  bands : v'.bands = v.bands
  budget : v'.budget = v.budget
  index : v'.index = v.index
  nextPass : v'.nextPass = v.nextPass
  priority : v'.priority = v.priority
  tag : v'.tag = v.tag
  mask : v'.mask = v.mask
  loaded : v'.loaded = v.loaded
  emitted : v'.emitted = v.emitted
  loading : v'.loading = v.loading
  ready : v'.ready = v.ready
  withheld : v'.withheld = v.withheld
  reservation : v'.reservation = v.reservation

theorem lateRaised_sameJob (v : Job) (flying : Bool) : SameJob v (lateRaised v flying) := by
  rw [← raiseLate_eq]
  constructor <;> simp

theorem dueRaised_sameJob (v : Job) (due : Nat) (flying : Bool) :
    SameJob v (dueRaised v due flying) := by
  unfold dueRaised
  split
  · obtain late := lateRaised_sameJob { v with due := due } flying
    exact ⟨late.profile, late.width, late.height, late.columns, late.bands, late.budget,
      late.index, late.nextPass, late.priority, late.tag, late.mask, late.loaded, late.emitted,
      late.loading, late.ready, late.withheld, late.reservation⟩
  · exact ⟨rfl, rfl, rfl, rfl, rfl, rfl, rfl, rfl, rfl, rfl, rfl, rfl, rfl, rfl, rfl, rfl, rfl⟩

/-- A change of the timer alone leaves the rest. -/
theorem SameJob.setTimer {v v' : Job} (h : SameJob v v') (t : Timer) :
    SameJob v { v' with timer := t } :=
  ⟨h.profile, h.width, h.height, h.columns, h.bands, h.budget, h.index, h.nextPass, h.priority,
    h.tag, h.mask, h.loaded, h.emitted, h.loading, h.ready, h.withheld, h.reservation⟩

section
variable {flying : Bool} {v v' : Job}

theorem JobStep.sameJob (h : JobStep flying v v') : SameJob v v' := by
  cases h with
  | paused => constructor <;> simp
  | resumed => constructor <;> simp
  | started => constructor <;> simp
  | continued => constructor <;> simp
  | paced => exact (dueRaised_sameJob v _ flying).setTimer _
  | page => exact (dueRaised_sameJob v _ flying).setTimer _
  | _ => constructor <;> rfl

/-! ### The state (R65) -/

/-- The states a step of a context can take it to. -/
inductive StateMove (flying : Bool) (v : Job) : JobState → Prop
  | stays : StateMove flying v v.state
  | starts (opened : v.state = .opened) : StateMove flying v .running
  | resumes (paused : v.state = .paused ∨ v.state = .stopping .pause) : StateMove flying v .running
  | continues (halted : v.state = .halted) (bare : v.withheld = none) :
    StateMove flying v .running
  | finishes (paused : v.state = .paused) (last : v.emitted = v.bands) : StateMove flying v .done
  | stops (r : StopReason)
    (coding : v.state = .running ∧ flying = true ∨ v.state = .stopping .pause) :
    StateMove flying v (.stopping r)
  | pauses (running : v.state = .running) (idle : flying = false) : StateMove flying v .paused
  | halts (idle : v.state = .running ∧ flying = false ∨ v.state = .paused) :
    StateMove flying v .halted

theorem StateMove.of_eq {st : JobState} (same : st = v.state) : StateMove flying v st :=
  same ▸ .stays

theorem lateRaised_state (v : Job) (flying : Bool) : StateMove flying v (lateRaised v flying).state := by
  unfold lateRaised
  simp only
  split
  · simp only [Job.moved]
    cases state : v.state with
    | running =>
      cases idle : flying with
      | true => exact .stops .halt (.inl ⟨state, rfl⟩)
      | false => exact .halts (.inl ⟨state, rfl⟩)
    | stopping r =>
      cases r with
      | pause => exact .stops .halt (.inr state)
      | halt => exact .of_eq state.symm
    | paused => exact .halts (.inr state)
    | free => exact .of_eq state.symm
    | opened => exact .of_eq state.symm
    | halted => exact .of_eq state.symm
    | done => exact .of_eq state.symm
  · exact .stays

theorem dueRaised_state (v : Job) (due : Nat) (flying : Bool) :
    StateMove flying v (dueRaised v due flying).state := by
  unfold dueRaised
  split
  · generalize late : lateRaised { v with due := due } flying = u
    have moves := lateRaised_state { v with due := due } flying
    rw [late] at moves
    generalize u.state = st at moves ⊢
    cases moves with
    | stays => exact .stays
    | starts opened => exact .starts opened
    | resumes paused => exact .resumes paused
    | continues halted bare => exact .continues halted bare
    | finishes paused last => exact .finishes paused last
    | stops r coding => exact .stops r coding
    | pauses running idle => exact .pauses running idle
    | halts idle => exact .halts idle
  · exact .stays

theorem pause_state (v : Job) (flying : Bool) : StateMove flying v (v.pause flying).state := by
  unfold Job.pause
  split_ifs with running idle
  · rw [enter_state]
    exact .stops _ (.inl ⟨running, idle⟩)
  · rw [enter_state]
    exact .pauses running (by simpa using idle)
  · exact .stays

theorem resume_state (v : Job) (flying : Bool) : StateMove flying v v.resume.state := by
  unfold Job.resume
  split
  · next paused =>
    rw [goOn_state]
    split_ifs with last
    · exact .finishes paused last
    · exact .resumes (.inl paused)
  · next stopping =>
    rw [enter_state]
    exact .resumes (.inr stopping)
  · exact .stays

theorem JobStep.stateMove (h : JobStep flying v v') : StateMove flying v v'.state := by
  cases h with
  | paused => exact pause_state v flying
  | resumed => exact resume_state v flying
  | started opened =>
    rw [enter_state]
    exact .starts opened
  | continued halted bare =>
    rw [enter_state]
    exact .continues halted bare
  | paced => exact dueRaised_state v _ flying
  | page => exact dueRaised_state v _ flying
  | _ => exact .stays

/-- A context becomes FREE, and leaves FREE, by other events than these. -/
theorem JobStep.free_iff (h : JobStep flying v v') : v'.state = .free ↔ v.state = .free := by
  have move := h.stateMove
  generalize v'.state = st at move
  cases move with
  | stays => rfl
  | starts opened => simp [opened]
  | resumes paused => obtain paused | paused := paused <;> simp [paused]
  | continues halted bare => simp [halted]
  | finishes paused last => simp [paused]
  | stops r coding => obtain ⟨coding, -⟩ | coding := coding <;> simp [coding]
  | pauses running idle => simp [running]
  | halts idle => obtain ⟨idle, -⟩ | idle := idle <;> simp [idle]

/-- A FREE context keeps its FREE values (R66). -/
theorem JobStep.freeJob (h : JobStep flying Machine.freeJob v') : v' = Machine.freeJob := by
  cases h with
  | resumed taken => cases taken
  | started opened => cases opened
  | continued halted => cases halted
  | flagsCleared live => exact absurd rfl live
  | enablesSet taken => cases taken
  | retimed live => exact absurd rfl live
  | paced running => cases running
  | page running => cases running
  | counted running => cases running
  | prescaled running => cases running
  | _ => rfl

theorem dueRaised_noticeLevel (v : Job) (due : Nat) (flying : Bool) :
    (dueRaised v due flying).noticeLevel = v.noticeLevel := by
  unfold dueRaised
  split
  · rw [← raiseLate_eq]
    simp
  · rfl

/-- Notice levels stay 0 to 3 (R62, R79). -/
theorem JobStep.noticeLevel_le (h : JobStep flying v v') (inRange : v.noticeLevel ≤ 3) :
    v'.noticeLevel ≤ 3 := by
  cases h with
  | paused => simpa using inRange
  | resumed => simpa using inRange
  | started => simpa using inRange
  | continued => simpa using inRange
  | enablesSet taken halts level kinds low => exact low
  | paced => exact (dueRaised_noticeLevel v _ flying).trans_le inRange
  | page => exact (dueRaised_noticeLevel v _ flying).trans_le inRange
  | _ => exact inRange

end

end Sys2Proof.Laws
end

/-! ## Contexts after an event -/

section
namespace Sys2Proof.Laws
open Sys2Proof.Machine

/-- The context after a commit, in the state it was in (R109). -/
@[simps] def bankedJob (v : Job) : Job :=
  { v with reservation := none, emitted := v.emitted + 1, nextPass := .one }

section
variable (s : State) (i j : Fin 8)

theorem job_commit (c : CommitSource) :
    (s.commit j c).job i = if i = j then bankedJob (s.job j) else s.job i := by
  unfold State.commit
  rw [job_modifyJob]
  split_ifs with here
  · rw [here]
    rfl
  · rfl

theorem job_commitWithheld (c : CommitSource) :
    (s.commitWithheld j c).job i =
      if i = j then Job.goOn { bankedJob (s.job j) with withheld := none } else s.job i := by
  unfold State.commitWithheld
  rw [job_modifyJob, job_commit]
  split_ifs <;> rfl

theorem job_freeContext :
    (s.freeContext j).job i = if i = j then freeJob else s.job i := by
  unfold State.freeContext
  rw [job_setJob]
  simp only [State.job, leaveAll_jobs]

theorem job_beginWrite (f : Frame) (q : PixelsRequest) (k : Fin 24) (b : BandSlot) :
    (s.beginWrite f q k b).job j =
      if JobSet.has b.refs j then { s.job j with loading := some k } else s.job j :=
  job_mapJobs (s.setSlot k (some b)) _ j

theorem job_storeWritten (k : Fin 24) (b : BandSlot) :
    (s.storeWritten k b).job j =
      if b.allComplete = true ∧ JobSet.has b.refs j = true then (s.job j).bandLoaded k
      else s.job j := by
  unfold State.storeWritten
  by_cases complete : b.allComplete = true
  · simp only [complete, if_true, true_and]
    exact job_mapJobs _ _ j
  · rw [if_neg complete, if_neg (complete ·.1)]
    rfl

theorem job_writeDone (w : PixelWrite) :
    (State.writeDone s w).job j = s.job j ∨
      (State.writeDone s w).job j = (s.job j).bandLoaded w.slot := by
  unfold State.writeDone
  split
  · have written := job_storeWritten s j w.slot
    next b band =>
    specialize written (b.withPixels w.row w.pixels)
    split_ifs at written
    · exact .inr written
    · exact .inl written
  · exact .inl rfl

theorem job_grantTo (l : Fin 2) (k : Fin 24) (rest : List (Fin 24)) :
    (s.grantTo l j k rest).job i = if i = j then (s.job j).granted rest else s.job i := by
  unfold State.grantTo
  exact job_setJob _ i j _

theorem job_nextColumn (l : Fin 2) (c : Coding) :
    (s.nextColumn l c).job i =
      if i = c.pass.job then
        { s.job i with
          reservation := (s.job i).reservation.map fun r => { r with area := c.area } }
      else s.job i := by
  unfold State.nextColumn
  rw [job_modifyJob]
  rfl

theorem job_passEnded (c : Coding) :
    (State.passEnded s c).job i =
      if i = c.pass.job then (s.job i).passResults c else s.job i :=
  job_modifyJob ..

/-- The context of a halted job (R107, R119). -/
def haltedJob (v : Job) (p : PassState) : Job :=
  { v with withheld := some (withheldOf p v.columns) }.enter .halted

theorem job_haltPass (l : Fin 2) (p : PassState) :
    (s.haltPass l p).job i = if i = p.job then haltedJob (s.job i) p else s.job i := by
  unfold State.haltPass
  rw [job_modifyJob]
  rfl

theorem job_climb (l : Fin 2) (p : PassState) : (s.climb l p).job i = s.job i := rfl

theorem job_commitPass (l : Fin 2) (c : Coding) :
    (s.commitPass l c).job i =
      if i = c.pass.job then (bankedJob (s.job i)).afterCommit else s.job i := by
  unfold State.commitPass
  have lanes : ((s.commit c.pass.job (passSource c)).setLane l none).job i =
      (s.commit c.pass.job (passSource c)).job i := rfl
  rw [job_modifyJob, lanes, job_commit]
  split_ifs with here
  · rw [here]
  · rfl

end

/-- The raising of a condition, as the statements write its mark (R116). -/
theorem raise_eq (v : Job) (c : Condition) :
    v.raise c =
      { v with causes := v.causes.add c, flags := v.flags.add c,
               noticePending := conditionNoted v } := by
  unfold Job.raise Job.markCondition conditionNoted
  simp only [Nat.one_le_iff_ne_zero]
  split <;> rfl

/-- The results of a pass end as the statements write them, but for the payload area (R42, R50). -/
theorem passResults_eq (v : Job) (c : Coding) :
    v.passResults c =
      { passRaised v c.pass { size := 0, area := [] } with
        reservation := v.reservation.map fun r => { r with area := c.area } } := by
  unfold Job.passResults passRaised
  have apart : (Pass.three == Pass.one) = false ∧ (Pass.three == Pass.two) = false ∧
    (Pass.one == Pass.two) = false ∧ (Pass.two == Pass.one) = false := by decide
  by_cases marked : 1 ≤ v.noticeLevel ∧ v.noticeKinds.condition = true <;>
    cases spent : c.pass.overMark <;> cases clipped : c.pass.clippedMark <;>
    cases number : c.pass.pass <;>
    simp [raise_eq, conditionNoted, Conditions.add, apart, spent, clipped, number, marked]

/-! ### The fields a pass end, a halt and a commit's decision keep -/

@[simp] theorem passResults_state (v : Job) (c : Coding) : (v.passResults c).state = v.state := by
  rw [passResults_eq]; rfl
@[simp] theorem passResults_profile (v : Job) (c : Coding) : (v.passResults c).profile = v.profile := by
  rw [passResults_eq]; rfl
@[simp] theorem passResults_width (v : Job) (c : Coding) : (v.passResults c).width = v.width := by
  rw [passResults_eq]; rfl
@[simp] theorem passResults_height (v : Job) (c : Coding) : (v.passResults c).height = v.height := by
  rw [passResults_eq]; rfl
@[simp] theorem passResults_columns (v : Job) (c : Coding) : (v.passResults c).columns = v.columns := by
  rw [passResults_eq]; rfl
@[simp] theorem passResults_bands (v : Job) (c : Coding) : (v.passResults c).bands = v.bands := by
  rw [passResults_eq]; rfl
@[simp] theorem passResults_budget (v : Job) (c : Coding) : (v.passResults c).budget = v.budget := by
  rw [passResults_eq]; rfl
@[simp] theorem passResults_nextPass (v : Job) (c : Coding) : (v.passResults c).nextPass = v.nextPass := by
  rw [passResults_eq]; rfl
@[simp] theorem passResults_priority (v : Job) (c : Coding) : (v.passResults c).priority = v.priority := by
  rw [passResults_eq]; rfl
@[simp] theorem passResults_tag (v : Job) (c : Coding) : (v.passResults c).tag = v.tag := by
  rw [passResults_eq]; rfl
@[simp] theorem passResults_mask (v : Job) (c : Coding) : (v.passResults c).mask = v.mask := by
  rw [passResults_eq]; rfl
@[simp] theorem passResults_halts (v : Job) (c : Coding) : (v.passResults c).halts = v.halts := by
  rw [passResults_eq]; rfl
@[simp] theorem passResults_noticeLevel (v : Job) (c : Coding) : (v.passResults c).noticeLevel = v.noticeLevel := by
  rw [passResults_eq]; rfl
@[simp] theorem passResults_noticeKinds (v : Job) (c : Coding) : (v.passResults c).noticeKinds = v.noticeKinds := by
  rw [passResults_eq]; rfl
@[simp] theorem passResults_timer (v : Job) (c : Coding) : (v.passResults c).timer = v.timer := by
  rw [passResults_eq]; rfl
@[simp] theorem passResults_loaded (v : Job) (c : Coding) : (v.passResults c).loaded = v.loaded := by
  rw [passResults_eq]; rfl
@[simp] theorem passResults_emitted (v : Job) (c : Coding) : (v.passResults c).emitted = v.emitted := by
  rw [passResults_eq]; rfl
@[simp] theorem passResults_due (v : Job) (c : Coding) : (v.passResults c).due = v.due := by
  rw [passResults_eq]; rfl
@[simp] theorem passResults_loading (v : Job) (c : Coding) : (v.passResults c).loading = v.loading := by
  rw [passResults_eq]; rfl
@[simp] theorem passResults_ready (v : Job) (c : Coding) : (v.passResults c).ready = v.ready := by
  rw [passResults_eq]; rfl
@[simp] theorem passResults_withheld (v : Job) (c : Coding) : (v.passResults c).withheld = v.withheld := by
  rw [passResults_eq]; rfl

@[simp] theorem haltedJob_profile (v : Job) (p : PassState) : (haltedJob v p).profile = v.profile := by
  simp [haltedJob]
@[simp] theorem haltedJob_width (v : Job) (p : PassState) : (haltedJob v p).width = v.width := by
  simp [haltedJob]
@[simp] theorem haltedJob_height (v : Job) (p : PassState) : (haltedJob v p).height = v.height := by
  simp [haltedJob]
@[simp] theorem haltedJob_columns (v : Job) (p : PassState) : (haltedJob v p).columns = v.columns := by
  simp [haltedJob]
@[simp] theorem haltedJob_bands (v : Job) (p : PassState) : (haltedJob v p).bands = v.bands := by
  simp [haltedJob]
@[simp] theorem haltedJob_budget (v : Job) (p : PassState) : (haltedJob v p).budget = v.budget := by
  simp [haltedJob]
@[simp] theorem haltedJob_nextPass (v : Job) (p : PassState) : (haltedJob v p).nextPass = v.nextPass := by
  simp [haltedJob]
@[simp] theorem haltedJob_priority (v : Job) (p : PassState) : (haltedJob v p).priority = v.priority := by
  simp [haltedJob]
@[simp] theorem haltedJob_tag (v : Job) (p : PassState) : (haltedJob v p).tag = v.tag := by
  simp [haltedJob]
@[simp] theorem haltedJob_mask (v : Job) (p : PassState) : (haltedJob v p).mask = v.mask := by
  simp [haltedJob]
@[simp] theorem haltedJob_halts (v : Job) (p : PassState) : (haltedJob v p).halts = v.halts := by
  simp [haltedJob]
@[simp] theorem haltedJob_noticeLevel (v : Job) (p : PassState) : (haltedJob v p).noticeLevel = v.noticeLevel := by
  simp [haltedJob]
@[simp] theorem haltedJob_noticeKinds (v : Job) (p : PassState) : (haltedJob v p).noticeKinds = v.noticeKinds := by
  simp [haltedJob]
@[simp] theorem haltedJob_timer (v : Job) (p : PassState) : (haltedJob v p).timer = v.timer := by
  simp [haltedJob]
@[simp] theorem haltedJob_loaded (v : Job) (p : PassState) : (haltedJob v p).loaded = v.loaded := by
  simp [haltedJob]
@[simp] theorem haltedJob_emitted (v : Job) (p : PassState) : (haltedJob v p).emitted = v.emitted := by
  simp [haltedJob]
@[simp] theorem haltedJob_due (v : Job) (p : PassState) : (haltedJob v p).due = v.due := by
  simp [haltedJob]
@[simp] theorem haltedJob_loading (v : Job) (p : PassState) : (haltedJob v p).loading = v.loading := by
  simp [haltedJob]
@[simp] theorem haltedJob_ready (v : Job) (p : PassState) : (haltedJob v p).ready = v.ready := by
  simp [haltedJob]

@[simp] theorem afterCommit_profile (v : Job) : v.afterCommit.profile = v.profile := by
  unfold Job.afterCommit; split <;> simp
@[simp] theorem afterCommit_width (v : Job) : v.afterCommit.width = v.width := by
  unfold Job.afterCommit; split <;> simp
@[simp] theorem afterCommit_height (v : Job) : v.afterCommit.height = v.height := by
  unfold Job.afterCommit; split <;> simp
@[simp] theorem afterCommit_columns (v : Job) : v.afterCommit.columns = v.columns := by
  unfold Job.afterCommit; split <;> simp
@[simp] theorem afterCommit_bands (v : Job) : v.afterCommit.bands = v.bands := by
  unfold Job.afterCommit; split <;> simp
@[simp] theorem afterCommit_budget (v : Job) : v.afterCommit.budget = v.budget := by
  unfold Job.afterCommit; split <;> simp
@[simp] theorem afterCommit_nextPass (v : Job) : v.afterCommit.nextPass = v.nextPass := by
  unfold Job.afterCommit; split <;> simp
@[simp] theorem afterCommit_priority (v : Job) : v.afterCommit.priority = v.priority := by
  unfold Job.afterCommit; split <;> simp
@[simp] theorem afterCommit_tag (v : Job) : v.afterCommit.tag = v.tag := by
  unfold Job.afterCommit; split <;> simp
@[simp] theorem afterCommit_mask (v : Job) : v.afterCommit.mask = v.mask := by
  unfold Job.afterCommit; split <;> simp
@[simp] theorem afterCommit_halts (v : Job) : v.afterCommit.halts = v.halts := by
  unfold Job.afterCommit; split <;> simp
@[simp] theorem afterCommit_noticeLevel (v : Job) : v.afterCommit.noticeLevel = v.noticeLevel := by
  unfold Job.afterCommit; split <;> simp
@[simp] theorem afterCommit_noticeKinds (v : Job) : v.afterCommit.noticeKinds = v.noticeKinds := by
  unfold Job.afterCommit; split <;> simp
@[simp] theorem afterCommit_loaded (v : Job) : v.afterCommit.loaded = v.loaded := by
  unfold Job.afterCommit; split <;> simp
@[simp] theorem afterCommit_emitted (v : Job) : v.afterCommit.emitted = v.emitted := by
  unfold Job.afterCommit; split <;> simp
@[simp] theorem afterCommit_due (v : Job) : v.afterCommit.due = v.due := by
  unfold Job.afterCommit; split <;> simp
@[simp] theorem afterCommit_loading (v : Job) : v.afterCommit.loading = v.loading := by
  unfold Job.afterCommit; split <;> simp
@[simp] theorem afterCommit_ready (v : Job) : v.afterCommit.ready = v.ready := by
  unfold Job.afterCommit; split <;> simp
@[simp] theorem afterCommit_withheld (v : Job) : v.afterCommit.withheld = v.withheld := by
  unfold Job.afterCommit; split <;> simp

@[simp] theorem haltedJob_state (v : Job) (p : PassState) : (haltedJob v p).state = .halted := by
  simp [haltedJob]

@[simp] theorem haltedJob_withheld (v : Job) (p : PassState) :
    (haltedJob v p).withheld = some (withheldOf p v.columns) := by
  simp [haltedJob]

@[simp] theorem haltedJob_reservation (v : Job) (p : PassState) :
    (haltedJob v p).reservation = v.reservation := by
  simp [haltedJob]

@[simp] theorem haltedJob_index (v : Job) (p : PassState) : (haltedJob v p).index = v.index := by
  simp [haltedJob]

@[simp] theorem afterCommit_index (v : Job) : v.afterCommit.index = v.index := by
  unfold Job.afterCommit; split <;> simp

@[simp] theorem afterCommit_reservation (v : Job) :
    v.afterCommit.reservation = v.reservation := by
  unfold Job.afterCommit; split <;> simp

@[simp] theorem passResults_reservation (v : Job) (c : Coding) :
    (v.passResults c).reservation =
      v.reservation.map fun r => { r with area := c.area } := by
  rw [passResults_eq]

theorem passResults_index (v : Job) (c : Coding) :
    (v.passResults c).index = if c.pass.pass = .three then v.index else c.pass.runningIndex := by
  rw [passResults_eq]
  rfl

theorem afterCommit_state (v : Job) :
    v.afterCommit.state =
      if v.state = .stopping .pause then .paused
      else if v.emitted = v.bands then .done else .running := by
  unfold Job.afterCommit
  split_ifs <;> simp_all [goOn_state]

theorem goOn_timer (v : Job) :
    v.goOn.timer =
      if v.emitted = v.bands then { v.timer with running := false, buffered := none }
      else v.timer := by
  unfold Job.goOn
  split_ifs <;> simp [Job.enterDone]

theorem afterCommit_timer (v : Job) :
    v.afterCommit.timer =
      if v.state ≠ .stopping .pause ∧ v.emitted = v.bands then
        { v.timer with running := false, buffered := none }
      else v.timer := by
  unfold Job.afterCommit
  split_ifs <;> simp_all [goOn_timer]

/-- Every way a step can change one context, before what settles. -/
inductive JobCase (s : State) (j : Fin 8) : Job → Prop
  | step {v : Job} (became : JobStep (s.passInFlight j) (s.job j) v) : JobCase s j v
  | opened (k : Fin 8) (p : Profile) (r : OpenRequest) (free : (s.job j).state = .free)
    (ready : (s.profiles[k]).content = .ready p) (inRange : openFieldFailure r = none)
    (reloads : ∀ t ∈ r.timer, t.reload ≤ 65535)
    (taken : s.inHand = .nothing ∧ s.startup = none) : JobCase s j (openedJob k p r)
  | freed : JobCase s j freeJob
  | requeued (w : Withheld) (next : Pass) (index budget : Nat)
    (halted : (s.job j).state = .halted) (withheld : (s.job j).withheld = some w)
    (indexed : index = (s.job j).index ∨ index ≤ 63)
    (budgeted : budget = (s.job j).budget ∨
      ∃ asked, budget = clampBudget (s.job j).columns asked) :
    JobCase s j ({ s.job j with index := index, budget := budget }.requeue w next)
  | resolved (halted : (s.job j).state = .halted) :
    JobCase s j (Job.goOn { bankedJob (s.job j) with withheld := none })
  | loads (k : Fin 24) : JobCase s j { s.job j with loading := some k }
  | filled (k : Fin 24) : JobCase s j ((s.job j).bandLoaded k)
  | granted (rest : List (Fin 24)) : JobCase s j ((s.job j).granted rest)
  | coded (r : Option Reservation) : JobCase s j { s.job j with reservation := r }
  | ended {l : Fin 2} {p : PassState} {b : BandSlot} {q : Profile} {r : Reservation}
    {c : Coding} (coded : Coded s l p b q r) (job : p.job = j)
    (coding : (s.columnCoded p q b r).finish (s.job p.job).budget = c) (v : Job)
    (decided : v = (s.job j).passResults c ∨ v = haltedJob ((s.job j).passResults c) c.pass ∨
      v = (bankedJob ((s.job j).passResults c)).afterCommit) : JobCase s j v

section
variable {s u v : State}

theorem JobCase.same (h : u.job j = s.job j) : JobCase s j (u.job j) := h ▸ .step .same

theorem CoreCase.jobCase (h : CoreCase s u) (j : Fin 8) :
    JobCase s j (u.job j) := by
  cases h with
  | jobs slots lanes candidates records writing became => exact .step (became j)
  | opened i k p r free ready inRange reloads taken becomes =>
    rw [becomes.job, job_setJob]
    split_ifs with here
    · subst here
      exact .opened k p r free ready inRange reloads taken
    · exact .step .same
  | freed i idle becomes =>
    rw [becomes.job, job_freeContext]
    split_ifs
    · exact .freed
    · exact .step .same
  | resolved i w c halted withheld source becomes =>
    rw [becomes.job, job_commitWithheld]
    split_ifs with here
    · subst here
      exact .resolved halted
    · exact .step .same
  | requeued i w next index budget halted withheld indexed budgeted becomes =>
    rw [becomes.job, job_setJob]
    split_ifs with here
    · subst here
      exact .requeued w next index budget halted withheld indexed budgeted
    · exact .step .same
  | writeBegun f q k b idle slot data becomes =>
    rw [becomes.job, job_beginWrite]
    split_ifs
    · exact .loads k
    · exact .step .same
  | writeDone w writing becomes =>
    rw [becomes.job]
    obtain same | filled := job_writeDone s j w
    · exact same ▸ .step .same
    · exact filled ▸ .filled w.slot
  | sent n becomes =>
    rw [becomes.job]
    exact .step .same
  | granted l i others k rest lane head ready room becomes =>
    rw [becomes, job_grantTo]
    split_ifs with here
    · subst here
      exact .granted rest
    · exact .step .same
  | wentOn coded coding fits more becomes =>
    rw [becomes, job_nextColumn]
    split_ifs
    · exact .coded _
    · exact .step .same
  | @halted l p b q r c d coded coding ends ended becomes =>
    have job : d.pass.job = p.job := by
      rw [← ended, ← coding]
      exact ((columnCoded_sameRun s p q b r).trans (finish_sameRun ..)).job
    rw [becomes, job_haltPass, job_passEnded]
    split_ifs with here
    · exact .ended coded (job.symm.trans here.symm) (coding ▸ ended) _ (.inr (.inl rfl))
    · exact .step .same
  | @climbed l p b q r c d coded coding ended becomes =>
    have job : d.pass.job = p.job := by
      rw [← ended, ← coding]
      exact ((columnCoded_sameRun s p q b r).trans (finish_sameRun ..)).job
    rw [becomes, job_climb, job_passEnded]
    split_ifs with here
    · exact .ended coded (job.symm.trans here.symm) (coding ▸ ended) _ (.inl rfl)
    · exact .step .same
  | @committed l p b q r c d coded coding ended becomes =>
    have job : d.pass.job = p.job := by
      rw [← ended, ← coding]
      exact ((columnCoded_sameRun s p q b r).trans (finish_sameRun ..)).job
    rw [becomes, job_commitPass, job_passEnded]
    split_ifs with here
    · exact .ended coded (job.symm.trans here.symm) (coding ▸ ended) _ (.inr (.inr rfl))
    · exact .step .same
  | reset becomes =>
    rw [becomes.job]
    have free : State.reset.job j = freeJob := by simp [State.job, State.reset]
    rw [free]
    exact .freed

end

end Sys2Proof.Laws
end

/-! ## Laws of one context, kept by every step -/

section
namespace Sys2Proof.Laws
open Sys2Proof.Machine

/-- Every step, by what it makes of one context: a case, then perhaps its notice marks cleared. -/
theorem step_context {s t : State} (h : step s = .next t) (j : Fin 8) :
    ∃ pending inbound v, JobCase { s with pending := pending, inbound := inbound } j v ∧
      (t.job j = v ∨ t.job j = { v with noticePending := {} }) := by
  obtain ⟨pending, inbound, u, core, settles⟩ := step_core h
  refine ⟨pending, inbound, u.job j, core.jobCase j, ?_⟩
  obtain rfl | ⟨rfl, -⟩ := settles
  · exact settle_job u j
  · exact .inl rfl

/-- A law of one context that every case keeps holds on after a step. -/
theorem step_keeps_context {P : Job → Prop} {s t : State} (h : step s = .next t) (j : Fin 8)
    (quiet : ∀ v, P v → P { v with noticePending := {} })
    (kept : ∀ pending inbound v,
      JobCase { s with pending := pending, inbound := inbound } j v → P v) : P (t.job j) := by
  obtain ⟨pending, inbound, v, became, same | noticed⟩ := step_context h j
  · exact same ▸ kept _ _ _ became
  · exact noticed ▸ quiet _ (kept _ _ _ became)

end Sys2Proof.Laws
end

/-! ## The pace timers (O58) -/

section
namespace Sys2Proof.Laws
open Sys2Proof.Machine

/-- The timer does not run in these states (R133, R136). -/
def restingState (st : JobState) : Prop := st = .free ∨ st = .opened ∨ st = .done

/-- The laws of one context's timer, by name. -/
structure TimerLaw (v : Job) : Prop where
  interval : v.timer.interval.InRange
  buffered : ∀ i ∈ v.timer.buffered, i.InRange
  count : v.timer.count ≤ 65535
  due : v.due ≤ v.bands
  runs : v.timer.running = true →
    v.timer.mode ≠ .off ∧ 1 ≤ v.timer.count ∧
    v.timer.prescaler < v.timer.interval.prescale.ticks ∧
    (v.timer.mode = .paced → v.due < v.bands)
  opened : v.state = .opened → v.due = 0 ∧ 1 ≤ v.bands
  rests : restingState v.state → v.timer.running = false

theorem timerInv_iff (s : State) : TimerInv s ↔ ∀ j, TimerLaw (s.job j) :=
  forall_congr' fun _ =>
    ⟨fun ⟨interval, buffered, count, due, runs, opened, rests⟩ =>
      ⟨interval, buffered, count, due, runs, opened, rests⟩,
    fun h => ⟨h.interval, h.buffered, h.count, h.due, h.runs, h.opened, h.rests⟩⟩

theorem prescale_ticks_pos (p : Prescale) : 0 < p.ticks := by cases p <;> decide

section
variable {v v' : Job}

/-- The timer, D and N are as they were, and the state is the same or one in which it may run. -/
theorem TimerLaw.of_same (h : TimerLaw v) (timer : v'.timer = v.timer) (due : v'.due = v.due)
    (bands : v'.bands = v.bands)
    (state : v'.state = v.state ∨ ¬restingState v'.state) : TimerLaw v' where
  interval := timer ▸ h.interval
  buffered := timer ▸ h.buffered
  count := timer ▸ h.count
  due := by rw [due, bands]; exact h.due
  runs := by rw [timer, due, bands]; exact h.runs
  opened := by
    intro opened
    obtain same | moved := state
    · rw [due, bands]
      exact h.opened (same ▸ opened)
    · exact absurd (.inr (.inl opened)) moved
  rests := by
    intro rests
    rw [timer]
    obtain same | moved := state
    · exact h.rests (same ▸ rests)
    · exact absurd rests moved

/-- A timer that has stopped, in a state other than OPEN. -/
theorem TimerLaw.of_stopped (interval : v'.timer.interval.InRange)
    (buffered : v'.timer.buffered = none) (count : v'.timer.count ≤ 65535)
    (stopped : v'.timer.running = false) (due : v'.due ≤ v'.bands)
    (opened : v'.state ≠ .opened) : TimerLaw v' where
  interval := interval
  buffered := by simp [buffered]
  count := count
  due := due
  runs := by simp [stopped]
  opened := fun o => absurd o opened
  rests := fun _ => stopped

/-- A context in a state in which its timer may run. -/
theorem TimerLaw.of_live (moves : ¬restingState v'.state) (interval : v'.timer.interval.InRange)
    (buffered : ∀ i ∈ v'.timer.buffered, i.InRange) (count : v'.timer.count ≤ 65535)
    (due : v'.due ≤ v'.bands)
    (runs : v'.timer.running = true →
      v'.timer.mode ≠ .off ∧ 1 ≤ v'.timer.count ∧
      v'.timer.prescaler < v'.timer.interval.prescale.ticks ∧
      (v'.timer.mode = .paced → v'.due < v'.bands)) : TimerLaw v' :=
  ⟨interval, buffered, count, due, runs, fun o => absurd (.inr (.inl o)) moves,
    fun r => absurd r moves⟩

theorem freeJob_timerLaw : TimerLaw freeJob where
  interval := ⟨by decide, by decide⟩
  buffered := by simp [freeJob, idleTimer]
  count := by decide
  due := by decide
  runs := by simp [freeJob, idleTimer]
  opened := by simp [freeJob]
  rests := fun _ => rfl

/-- Moving into a state in which the timer may run. -/
theorem TimerLaw.enter (h : TimerLaw v) {st : JobState} (moves : ¬restingState st) :
    TimerLaw (v.enter st) :=
  h.of_same (by simp) (by simp) (by simp) (.inr (by simpa using moves))

theorem running_not_resting : ¬restingState .running := by simp [restingState]
theorem paused_not_resting : ¬restingState .paused := by simp [restingState]
theorem halted_not_resting : ¬restingState .halted := by simp [restingState]
theorem stopping_not_resting (r : StopReason) : ¬restingState (.stopping r) := by
  simp [restingState]

theorem TimerLaw.goOn (h : TimerLaw v) : TimerLaw v.goOn := by
  by_cases last : v.emitted = v.bands
  · exact .of_stopped (by simpa [goOn_timer, last] using h.interval) (by simp [goOn_timer, last])
      (by simpa [goOn_timer, last] using h.count) (by simp [goOn_timer, last])
      (by simpa using h.due) (by simp [goOn_state, last])
  · exact h.of_same (by simp [goOn_timer, last]) (by simp) (by simp)
      (.inr (by simp [goOn_state, last, restingState]))

theorem TimerLaw.afterCommit (h : TimerLaw v) : TimerLaw v.afterCommit := by
  unfold Job.afterCommit
  split
  · exact h.enter paused_not_resting
  · exact h.goOn

theorem TimerLaw.pause (h : TimerLaw v) (flying : Bool) : TimerLaw (v.pause flying) := by
  unfold Job.pause
  split_ifs
  · exact h.enter (stopping_not_resting _)
  · exact h.enter paused_not_resting
  · exact h

theorem TimerLaw.resume (h : TimerLaw v) : TimerLaw v.resume := by
  unfold Job.resume
  split
  · exact h.goOn
  · exact h.enter running_not_resting
  · exact h

theorem start_cases (t : Timer) :
    (t.mode = .off ∧ t.start = t) ∨
      (t.mode ≠ .off ∧ t.start = { t.load t.interval with running := true }) := by
  unfold Timer.start
  split
  · next off => exact .inl ⟨off, rfl⟩
  · next on => exact .inr ⟨on, rfl⟩

/-- A context that starts (R133). -/
theorem TimerLaw.started (h : TimerLaw v) (opened : v.state = .opened) :
    TimerLaw ({ v with timer := v.timer.start }.enter .running) := by
  obtain ⟨zero, some⟩ := h.opened opened
  have stopped := h.rests (.inr (.inl opened))
  obtain ⟨off, same⟩ | ⟨on, begun⟩ := start_cases v.timer
  · rw [same]
    exact h.enter running_not_resting
  · rw [begun]
    refine .of_live (by simp [restingState]) ?_ ?_ ?_ ?_ fun _ => ?_
    · rw [enter_timer]
      exact h.interval
    · rw [enter_timer]
      exact h.buffered
    · rw [enter_timer]
      exact h.interval.2
    · simpa using h.due
    · simp only [enter_timer, enter_due, enter_bands, zero]
      exact ⟨on, h.interval.1, prescale_ticks_pos _, fun _ => some⟩

/-- An accepted RETIME (R138, R139). -/
theorem TimerLaw.retimed (h : TimerLaw v) (mode : TimerMode) {i : Interval}
    (inRange : i.InRange) :
    TimerLaw { v with timer := v.timer.retime (v.state == .opened) mode i } := by
  unfold Timer.retime
  split_ifs with opened runs
  · have stopped := h.rests (.inr (.inl (by simpa using opened)))
    exact ⟨inRange, h.buffered, h.count, h.due, fun r => absurd (stopped ▸ r) (by simp), h.opened,
      fun _ => stopped⟩
  · obtain ⟨on, one, early, paced⟩ := h.runs runs
    split
    · exact ⟨h.interval, by simpa using inRange, h.count, h.due, h.runs, h.opened, h.rests⟩
    · exact ⟨inRange, h.buffered, inRange.2, h.due,
        fun _ => ⟨on, inRange.1, prescale_ticks_pos _, paced⟩, h.opened, h.rests⟩
    · exact h
  · exact h

/-! ### Expiries -/

theorem lateState_not_resting {st : JobState} (flying : Bool) (h : ¬restingState st) :
    ¬restingState (lateState st flying) := by
  cases st with
  | running => cases flying <;> simp [lateState, restingState]
  | stopping r => simp [lateState, restingState]
  | paused => simp [lateState, restingState]
  | _ => exact h

theorem lateRaised_not_resting (flying : Bool) (h : ¬restingState v.state) :
    ¬restingState (lateRaised v flying).state := by
  simp only [lateRaised]
  split
  · exact lateState_not_resting flying h
  · exact h

theorem dueRaised_not_resting (due : Nat) (flying : Bool) (h : ¬restingState v.state) :
    ¬restingState (dueRaised v due flying).state := by
  unfold dueRaised
  split
  · exact lateRaised_not_resting (v := { v with due := due }) flying h
  · exact h

theorem dueRaised_due (v : Job) (due : Nat) (flying : Bool) :
    (dueRaised v due flying).due = due := by
  unfold dueRaised
  split
  · rw [lateRaised_due]
  · rfl

/-- A running timer's context is in no resting state. -/
theorem TimerLaw.not_resting (h : TimerLaw v) (runs : v.timer.running = true) :
    ¬restingState v.state := fun rests => by simp [h.rests rests] at runs

/-- A PACED expiry (R134). -/
theorem TimerLaw.paced (h : TimerLaw v) (flying : Bool) (runs : v.timer.running = true)
    (mode : v.timer.mode = .paced) : TimerLaw (pacedExpired v flying) := by
  obtain ⟨on, -, -, paced⟩ := h.runs runs
  have room := paced mode
  have bands : (pacedExpired v flying).bands = v.bands :=
    (dueRaised_sameJob v (v.due + 1) flying).bands
  have due : (pacedExpired v flying).due = v.due + 1 := dueRaised_due ..
  have next : (v.timer.buffered.getD v.timer.interval).InRange := by
    cases buffered : v.timer.buffered with
    | none => exact h.interval
    | some i => exact h.buffered i (by simp [buffered])
  have timer : (pacedExpired v flying).timer = v.timer.afterPaced (v.due + 1 == v.bands) :=
    (afterPaced_eq ..).symm
  refine .of_live (dueRaised_not_resting (v.due + 1) flying (h.not_resting runs)) ?_ ?_ ?_
    (by omega) fun runs => ?_
  all_goals rw [timer]
  · by_cases last : v.due + 1 = v.bands <;> simpa [Timer.afterPaced, Timer.load, last] using next
  · by_cases last : v.due + 1 = v.bands <;> simp [Timer.afterPaced, last]
  · by_cases last : v.due + 1 = v.bands
    · simp [Timer.afterPaced, last]
    · simpa [Timer.afterPaced, Timer.load, last] using next.2
  · rw [timer] at runs
    by_cases last : v.due + 1 = v.bands
    · simp [Timer.afterPaced, last] at runs
    · simp only [Timer.afterPaced, Timer.load, beq_iff_eq, last, if_false]
      exact ⟨on, next.1, prescale_ticks_pos _, fun _ => by omega⟩

/-- A PAGE expiry (R135). -/
theorem TimerLaw.page (h : TimerLaw v) (flying : Bool) (runs : v.timer.running = true) :
    TimerLaw (pageExpired v flying) := by
  have bands : (pageExpired v flying).bands = v.bands := (dueRaised_sameJob v _ flying).bands
  have due : (pageExpired v flying).due = v.bands := dueRaised_due ..
  exact .of_live (dueRaised_not_resting v.bands flying (h.not_resting runs)) h.interval h.buffered
    (Nat.zero_le _) (by omega) (fun runs => by cases runs)

theorem JobStep.timerLaw {flying : Bool} (became : JobStep flying v v') (h : TimerLaw v) :
    TimerLaw v' := by
  cases became with
  | same => exact h
  | noticed => exact h.of_same rfl rfl rfl (.inl rfl)
  | paused => exact h.pause flying
  | resumed => exact h.resume
  | started opened => exact h.started opened
  | continued => exact h.enter running_not_resting
  | flagsCleared => exact h.of_same rfl rfl rfl (.inl rfl)
  | enablesSet => exact h.of_same rfl rfl rfl (.inl rfl)
  | retimed live mode i inRange => exact h.retimed mode inRange
  | paced runs last mode => exact h.paced flying runs mode
  | page runs last mode => exact h.page flying runs
  | counted runs more =>
    obtain ⟨on, one, early, paced⟩ := h.runs runs
    have low := h.count
    refine .of_live (h.not_resting runs) h.interval h.buffered ?_ h.due fun _ =>
      ⟨on, ?_, prescale_ticks_pos _, paced⟩
    · simp only [Timer.counted]
      omega
    · simp only [Timer.counted]
      omega
  | prescaled runs early =>
    obtain ⟨on, one, -, paced⟩ := h.runs runs
    exact .of_live (h.not_resting runs) h.interval h.buffered h.count h.due fun _ =>
      ⟨on, one, early, paced⟩

theorem openTimer_interval {r : OpenRequest} (reloads : ∀ t ∈ r.timer, t.reload ≤ 65535) :
    (openTimer r.timer).interval.InRange := by
  unfold openTimer
  split
  · exact ⟨by decide, by decide⟩
  · next t timer =>
    have low := reloads t (by simp [timer])
    exact ⟨le_max_left .., by simpa using low⟩

theorem openTimer_resting (o : Option TimerRequest) :
    (openTimer o).running = false ∧ (openTimer o).buffered = none ∧ (openTimer o).count = 0 := by
  cases o <;> exact ⟨rfl, rfl, rfl⟩

theorem openField_accepted {r : OpenRequest} (inRange : openFieldFailure r = none) :
    1 ≤ r.width ∧ r.width ≤ 8192 ∧ 1 ≤ r.height ∧ r.tag ≤ 4095 ∧ r.mask ≤ 4095 := by
  unfold openFieldFailure at inRange
  split_ifs at inRange with width height tag mask
  omega

theorem bandsOf_pos {height : Nat} (some : 1 ≤ height) : 1 ≤ bandsOf height := by
  unfold bandsOf
  omega

theorem openedJob_timerLaw (k : Fin 8) (p : Profile) {r : OpenRequest}
    (inRange : openFieldFailure r = none) (reloads : ∀ t ∈ r.timer, t.reload ≤ 65535) :
    TimerLaw (openedJob k p r) := by
  obtain ⟨stopped, buffered, zero⟩ := openTimer_resting r.timer
  obtain ⟨-, -, height, -, -⟩ := openField_accepted inRange
  refine ⟨?_, ?_, ?_, ?_, ?_, ?_, ?_⟩ <;>
    simp only [openedJob, enter_timer, enter_due, enter_bands]
  · exact openTimer_interval reloads
  · simp [buffered]
  · simp [zero]
  · exact Nat.zero_le _
  · simp [stopped]
  · exact fun _ => ⟨rfl, bandsOf_pos height⟩
  · exact fun _ => stopped

theorem JobCase.timerLaw {s : State} {j : Fin 8} (became : JobCase s j v)
    (h : TimerLaw (s.job j)) : TimerLaw v := by
  cases became with
  | step became => exact became.timerLaw h
  | opened k p r free ready inRange reloads taken => exact openedJob_timerLaw k p inRange reloads
  | freed => exact freeJob_timerLaw
  | requeued w next index budget halted =>
    exact h.of_same (by simp [Job.requeue]) (by simp [Job.requeue]) (by simp [Job.requeue])
      (.inr (by simp [Job.requeue, restingState]))
  | resolved halted =>
    exact TimerLaw.goOn (v := { bankedJob (s.job j) with withheld := none })
      (h.of_same rfl rfl rfl (.inl rfl))
  | loads k => exact h.of_same rfl rfl rfl (.inl rfl)
  | filled k => exact h.of_same rfl rfl rfl (.inl rfl)
  | granted rest => exact h.of_same rfl rfl rfl (.inl rfl)
  | coded r => exact h.of_same rfl rfl rfl (.inl rfl)
  | @ended l p b q r c coded job coding v decided =>
    have results : TimerLaw ((s.job j).passResults c) :=
      h.of_same (by simp) (by rw [passResults_due]) (by simp) (.inl (by simp))
    obtain rfl | rfl | rfl := decided
    · exact results
    · exact results.of_same (by simp) (by simp) (by simp) (.inr (by simp [restingState]))
    · exact TimerLaw.afterCommit (v := bankedJob _) (results.of_same rfl rfl rfl (.inl rfl))

end

/-- Settles O58: every case of one context keeps its timer's laws. -/
theorem timersKept : Obligations.TimersKept := by
  intro s t inv stepped
  rw [timerInv_iff] at inv ⊢
  exact fun j => step_keeps_context stepped j (fun v h => h.of_same rfl rfl rfl (.inl rfl))
    fun pending inbound v became => became.timerLaw (inv j)

end Sys2Proof.Laws
end

/-! ## The lanes after an event -/

section
namespace Sys2Proof.Laws
open Sys2Proof.Machine

section
variable {s u v t : State}

theorem coding_eq_some {j : Fin 8} {l : Fin 2} {p : PassState} (h : s.coding j = some (l, p)) :
    s.lanes[l] = some p ∧ p.job = j := by
  unfold State.coding at h
  split at h
  · next zero =>
    split_ifs at h with mine
    · cases h
      exact ⟨zero, mine⟩
    · split at h
      · next one =>
        split_ifs at h with mine
        cases h
        exact ⟨one, mine⟩
      · cases h
  · split at h
    · next one =>
      split_ifs at h with mine
      cases h
      exact ⟨one, mine⟩
    · cases h

/-- A job has a pass in flight when a lane codes it (R65). -/
theorem passInFlight_iff {j : Fin 8} :
    s.passInFlight j = true ↔ ∃ (l : Fin 2) (p : PassState), s.lanes[l] = some p ∧ p.job = j := by
  constructor
  · intro h
    obtain ⟨⟨l, p⟩, coding⟩ := Option.isSome_iff_exists.mp h
    exact ⟨l, p, coding_eq_some coding⟩
  · rintro ⟨l, p, lane, mine⟩
    unfold State.passInFlight State.coding
    match l with
    | 0 => simp [show s.lanes[0] = some p from lane, mine]
    | 1 =>
      simp only [show s.lanes[1] = some p from lane, mine, if_true]
      split
      · split <;> rfl
      · rfl

/-- No two lanes code one job. -/
def LanesApart (s : State) : Prop := ∀ p ∈ s.lanes[0], ∀ q ∈ s.lanes[1], p.job ≠ q.job

/-- The lane that codes a job is its coding band's (R63). -/
theorem LanesApart.coding_eq (apart : LanesApart s) {l : Fin 2} {p : PassState}
    (lane : s.lanes[l] = some p) : s.coding p.job = some (l, p) := by
  unfold State.coding
  match l with
  | 0 => simp [show s.lanes[0] = some p from lane]
  | 1 =>
    have one : s.lanes[1] = some p := lane
    split
    · next q zero =>
      rw [if_neg (apart q zero p one)]
      simp [one]
    · simp [one]

/-- Every way an event can change one lane. -/
inductive LaneCase (s : State) (l : Fin 2) : Option PassState → Prop
  | stays : LaneCase s l s.lanes[l]
  | idles : LaneCase s l none
  | granted (j : Fin 8) (others : List (Fin 8)) (k : Fin 24) (rest : List (Fin 24))
    (lane : s.lanes[l] = none) (head : s.candidates = j :: others)
    (ready : (s.job j).ready = k :: rest) :
    LaneCase s l (some (beginPass j k (s.bandIn k) (s.job j).nextPass (s.job j).index))
  | wentOn {p : PassState} {b : BandSlot} {q : Profile} {r : Reservation} {c : Coding}
    (coded : Coded s l p b q r) (coding : s.columnCoded p q b r = c)
    (fits : c.pass.overMark = false) (more : p.column + 1 < (s.job p.job).columns) :
    LaneCase s l (some { c.pass with column := c.pass.column + 1 })
  | climbed {p : PassState} {b : BandSlot} {q : Profile} {r : Reservation} {c d : Coding}
    (coded : Coded s l p b q r) (coding : s.columnCoded p q b r = c)
    (ended : c.finish (s.job p.job).budget = d) :
    LaneCase s l (some (beginPass d.pass.job d.pass.slot d.pass.band d.pass.pass.ladder
      (ladderIndex d.pass.pass.ladder ((State.passEnded s d).job d.pass.job).index)))

theorem LaneCase.of_eq {l : Fin 2} {o : Option PassState} (h : o = s.lanes[l]) :
    LaneCase s l o := h ▸ .stays

theorem lanes_freeContext (j : Fin 8) (l : Fin 2) :
    (s.freeContext j).lanes[l] = abandonPass j s.lanes[l] := by
  simp [State.freeContext]

theorem abandonPass_cases (j : Fin 8) (o : Option PassState) :
    abandonPass j o = o ∨ abandonPass j o = none := by
  unfold abandonPass
  split
  · split
    · exact .inr rfl
    · exact .inl rfl
  · exact .inl rfl

theorem SameCore.lane (h : SameCore v u) (l : Fin 2) : u.lanes[l] = v.lanes[l] := by
  rw [h.lanes]

theorem lanes_writeDone (w : PixelWrite) : (State.writeDone s w).lanes = s.lanes := by
  unfold State.writeDone
  split
  · unfold State.storeWritten
    split
    · rfl
    · rfl
  · rfl

theorem CoreCase.laneCase (h : CoreCase s u) (l : Fin 2) : LaneCase s l u.lanes[l] := by
  cases h with
  | jobs slots lanes => exact .of_eq (by rw [lanes])
  | opened i k p r free ready inRange reloads taken becomes => exact .of_eq (becomes.lane l)
  | freed i idle becomes =>
    rw [becomes.lane, lanes_freeContext]
    obtain same | idles := abandonPass_cases i s.lanes[l]
    · exact .of_eq same
    · exact idles ▸ .idles
  | resolved i w c halted withheld source becomes => exact .of_eq (becomes.lane l)
  | requeued i w next index budget halted withheld indexed budgeted becomes =>
    exact .of_eq (becomes.lane l)
  | writeBegun f q k b idle slot data becomes => exact .of_eq (becomes.lane l)
  | writeDone w writing becomes =>
    exact .of_eq ((becomes.lane l).trans (by rw [lanes_writeDone]))
  | sent n becomes => exact .of_eq (becomes.lane l)
  | granted i j others k rest lane head ready room becomes =>
    have lanes : u.lanes[l] = (s.setLane i
        (some (beginPass j k (s.bandIn k) (s.job j).nextPass (s.job j).index))).lanes[l] := by
      rw [becomes]
      rfl
    rw [lanes, lanes_setLane]
    split_ifs with here
    · subst here
      exact .granted j others k rest lane head ready
    · exact .stays
  | @wentOn i p b q r c coded coding fits more becomes =>
    have lanes : u.lanes[l] =
        (s.setLane i (some { c.pass with column := c.pass.column + 1 })).lanes[l] := by
      rw [becomes]
      rfl
    rw [lanes, lanes_setLane]
    split_ifs with here
    · subst here
      exact .wentOn coded coding fits more
    · exact .stays
  | @halted i p b q r c d coded coding ends ended becomes =>
    have lanes : u.lanes[l] = (s.setLane i none).lanes[l] := by
      rw [becomes]
      rfl
    rw [lanes, lanes_setLane]
    split_ifs
    · exact .idles
    · exact .stays
  | @climbed i p b q r c d coded coding ended becomes =>
    rw [becomes, State.climb, lanes_setLane]
    split_ifs with here
    · subst here
      exact .climbed coded coding ended
    · exact .stays
  | @committed i p b q r c d coded coding ended becomes =>
    have lanes : u.lanes[l] = (s.setLane i none).lanes[l] := by
      rw [becomes]
      rfl
    rw [lanes, lanes_setLane]
    split_ifs
    · exact .idles
    · exact .stays
  | reset becomes =>
    have idle : State.reset.lanes[l] = none := by simp [State.reset]
    rw [becomes.lane, idle]
    exact .idles

/-- What settles leaves the lanes. -/
theorem Settles.lanes (h : Settles s u t) : t.lanes = u.lanes := by
  obtain rfl | ⟨rfl, -⟩ := h
  · exact settle_lanes u
  · rfl

/-- Every step, by what it makes of one lane. -/
theorem step_lane (h : step s = .next t) (l : Fin 2) :
    ∃ pending inbound, LaneCase { s with pending := pending, inbound := inbound } l t.lanes[l] := by
  obtain ⟨pending, inbound, u, core, settles⟩ := step_core h
  exact ⟨pending, inbound, settles.lanes ▸ core.laneCase l⟩

end

end Sys2Proof.Laws
end

/-! ## Indices and budgets (O53) -/

section
namespace Sys2Proof.Laws
open Sys2Proof.Machine

/-- The ranges of a context (R1, R37, R41, R44, R62). -/
structure IndexLaw (v : Job) : Prop where
  priority : v.priority ≤ 3
  noticeLevel : v.noticeLevel ≤ 3
  live : v.state ≠ .free → v.index ≤ 63 ∧
    (1 ≤ v.columns ∧ v.columns ≤ 1024 ∧ v.columns = columnsOf v.width) ∧
    (1 ≤ v.bands ∧ v.bands = bandsOf v.height) ∧
    budgetFloor v.columns ≤ v.budget ∧ v.budget ≤ 196608

/-- A pass's indices are in range (R42, R47). -/
def PassState.IndexLaw (p : PassState) : Prop := p.startIndex ≤ 63 ∧ p.runningIndex ≤ 63

theorem indexInv_iff (s : State) :
    IndexInv s ↔ (∀ j, IndexLaw (s.job j)) ∧ ∀ l : Fin 2, ∀ p ∈ s.lanes[l], PassState.IndexLaw p :=
  ⟨fun ⟨levels, live, lanes⟩ => ⟨fun j => ⟨(levels j).1, (levels j).2, live j⟩, lanes⟩,
    fun ⟨jobs, lanes⟩ =>
      ⟨fun j => ⟨(jobs j).priority, (jobs j).noticeLevel⟩, fun j => (jobs j).live, lanes⟩⟩

/-! ### Ranges of the rate operations -/

theorem budgetFloor_le {columns : Nat} (h : columns ≤ 1024) : budgetFloor columns ≤ 196608 := by
  unfold budgetFloor
  omega

theorem clampBudget_bounds {columns : Nat} (budget : Nat) (h : columns ≤ 1024) :
    budgetFloor columns ≤ clampBudget columns budget ∧ clampBudget columns budget ≤ 196608 := by
  have low := budgetFloor_le h
  have ceiling : Config.budgetCeiling = 196608 := rfl
  unfold clampBudget clampNat
  omega

theorem columnsOf_bounds {width : Nat} (some : 1 ≤ width) (wide : width ≤ 8192) :
    1 ≤ columnsOf width ∧ columnsOf width ≤ 1024 := by
  unfold columnsOf
  omega

theorem nextRunning_le (pass : Pass) (budget columns column bits : Nat) {running : Nat}
    (h : running ≤ 63) : nextRunning pass budget columns column bits running ≤ 63 := by
  cases pass with
  | one => exact updateIndex_le h
  | two => exact updateIndex_le h
  | three => exact h

theorem ladderIndex_le (next : Pass) {index : Nat} (h : index ≤ 63) :
    ladderIndex next index ≤ 63 := by
  cases next with
  | one => exact h
  | two => exact min_le_left ..
  | three => exact h

theorem openIndex_le {p : Profile} (h : p.startIndex ≤ 63) (asked : Nat) :
    openIndex p asked ≤ 63 := by
  unfold openIndex
  split_ifs
  · exact h
  · exact min_le_left ..

theorem codeTile_runningIndex (q : Profile) (budget : Nat) (b : BandSlot) (top : Nat)
    (c : Coding) : (c.codeTile q budget b top).pass.runningIndex = c.pass.runningIndex := by
  simp only [Coding.codeTile, Coding.withStream]

theorem finish_runningIndex (budget : Nat) (c : Coding) :
    (c.finish budget).pass.runningIndex = c.pass.runningIndex := by
  simp only [Coding.finish, Coding.withStream]

theorem columnCoded_runningIndex_le {p : PassState} (s : State) (q : Profile) (b : BandSlot)
    (r : Reservation) (h : p.runningIndex ≤ 63) :
    (s.columnCoded p q b r).pass.runningIndex ≤ 63 := by
  rw [columnCoded_pass, PassState.steer]
  refine nextRunning_le _ _ _ _ _ ?_
  rw [Coding.codeColumn, codeTile_runningIndex, codeTile_runningIndex]
  exact h

/-! ### Preservation -/

section
variable {v v' : Job}

theorem IndexLaw.of_same (h : IndexLaw v) (same : SameJob v v') (level : v'.noticeLevel ≤ 3)
    (free : v.state = .free → v'.state = .free) : IndexLaw v' where
  priority := same.priority ▸ h.priority
  noticeLevel := level
  live := by
    intro live
    rw [same.index, same.columns, same.width, same.bands, same.height, same.budget]
    exact h.live fun f => live (free f)

theorem JobStep.indexLaw {flying : Bool} (became : JobStep flying v v') (h : IndexLaw v) :
    IndexLaw v' :=
  h.of_same became.sameJob (became.noticeLevel_le h.noticeLevel) became.free_iff.mpr

theorem freeJob_indexLaw : IndexLaw freeJob := ⟨by decide, by decide, fun live => absurd rfl live⟩

theorem openedJob_indexLaw (k : Fin 8) {p : Profile} {r : OpenRequest}
    (default : p.startIndex ≤ 63) (inRange : openFieldFailure r = none) :
    IndexLaw (openedJob k p r) := by
  obtain ⟨some, wide, height, -, -⟩ := openField_accepted inRange
  obtain ⟨low, high⟩ := columnsOf_bounds some wide
  refine ⟨?_, ?_, fun _ => ?_⟩ <;> unfold openedJob
  · simp
  · simp
  · simpa using ⟨openIndex_le default _, ⟨low, high⟩, bandsOf_pos height, clampBudget_bounds _ high⟩

/-- The index of a context in flight changes at a pass end (R42). -/
theorem IndexLaw.passResults (h : IndexLaw v) {c : Coding} (inRange : c.pass.runningIndex ≤ 63) :
    IndexLaw (v.passResults c) where
  priority := by simpa using h.priority
  noticeLevel := by simpa using h.noticeLevel
  live := by
    intro live
    obtain ⟨index, rest⟩ := h.live (by simpa using live)
    refine ⟨?_, by simpa using rest⟩
    rw [passResults_index]
    split_ifs
    · exact index
    · exact inRange

end

theorem finish_indexLaw {s : State} {l : Fin 2} {p : PassState} {b : BandSlot} {q : Profile}
    {r : Reservation} {c : Coding} (passes : ∀ l : Fin 2, ∀ p ∈ s.lanes[l], PassState.IndexLaw p)
    (coded : Coded s l p b q r)
    (coding : (s.columnCoded p q b r).finish (s.job p.job).budget = c) :
    c.pass.runningIndex ≤ 63 := by
  rw [← coding, finish_runningIndex]
  exact columnCoded_runningIndex_le s q b r (passes l p coded.lane).2

theorem JobCase.indexLaw {s : State} {j : Fin 8} {v : Job} (became : JobCase s j v)
    (profiles : ∀ k : Fin 8, ∀ p, (s.profiles[k]).content = .ready p → p.startIndex ≤ 63)
    (passes : ∀ l : Fin 2, ∀ p ∈ s.lanes[l], PassState.IndexLaw p)
    (h : IndexLaw (s.job j)) (lanes : s.passInFlight j = true → (s.job j).state ≠ .free) :
    IndexLaw v := by
  cases became with
  | step became => exact became.indexLaw h
  | opened k p r free ready inRange reloads taken => exact openedJob_indexLaw k (profiles k p ready) inRange
  | freed => exact freeJob_indexLaw
  | requeued w next index budget halted withheld indexed budgeted =>
    obtain ⟨low, columns, bands, floor, ceiling⟩ := h.live (by simp [halted])
    refine ⟨by simpa [Job.requeue] using h.priority, by simpa [Job.requeue] using h.noticeLevel,
      fun _ => ?_⟩
    have indexed : index ≤ 63 := indexed.elim (fun same => same ▸ low) id
    have budgeted : budgetFloor (s.job j).columns ≤ budget ∧ budget ≤ 196608 := by
      obtain rfl | ⟨asked, rfl⟩ := budgeted
      · exact ⟨floor, ceiling⟩
      · exact clampBudget_bounds asked columns.2.1
    simpa [Job.requeue] using ⟨indexed, columns, bands, budgeted⟩
  | resolved halted =>
    exact ⟨by simpa using h.priority, by simpa using h.noticeLevel,
      fun _ => by simpa using h.live (by simp [halted])⟩
  | loads k => exact ⟨h.priority, h.noticeLevel, h.live⟩
  | filled k => exact ⟨h.priority, h.noticeLevel, h.live⟩
  | granted rest => exact ⟨h.priority, h.noticeLevel, h.live⟩
  | coded r => exact ⟨h.priority, h.noticeLevel, h.live⟩
  | @ended l p b q r c coded job coding v decided =>
    have results := h.passResults (finish_indexLaw passes coded coding)
    have live : ((s.job j).passResults c).state ≠ .free := by
      simpa using lanes (passInFlight_iff.mpr ⟨l, p, coded.lane, job⟩)
    obtain rfl | rfl | rfl := decided
    · exact results
    · exact ⟨by simpa using results.priority, by simpa using results.noticeLevel,
        fun _ => by simpa only [haltedJob_index, haltedJob_columns, haltedJob_width,
          haltedJob_bands, haltedJob_height, haltedJob_budget] using results.live live⟩
    · exact ⟨by simpa using results.priority, by simpa using results.noticeLevel,
        fun _ => by simpa only [afterCommit_index, afterCommit_columns, afterCommit_width,
          afterCommit_bands, afterCommit_height, afterCommit_budget,
          bankedJob_index, bankedJob_columns, bankedJob_width, bankedJob_bands, bankedJob_height,
          bankedJob_budget] using results.live live⟩

/-- An eligible job is RUNNING (R101). -/
theorem eligible_iff {s : State} {j : Fin 8} :
    s.eligible j = true ↔
      (s.job j).state = .running ∧ s.passInFlight j = false ∧ (s.job j).ready ≠ [] := by
  unfold State.eligible
  rw [Bool.and_eq_true, Bool.and_eq_true, beq_iff_eq, Bool.not_eq_true', Bool.not_eq_true',
    List.isEmpty_eq_false_iff, and_assoc]

theorem head_running {s : State} (inv : CandidateInv s) {j : Fin 8}
    {others : List (Fin 8)} (head : s.candidates = j :: others) : (s.job j).state = .running := by
  obtain ⟨-, exact, -⟩ := inv
  exact (eligible_iff.mp ((exact j).mp (by simp [head]))).1

/-- A job whose pass is in flight is not FREE (R65). -/
theorem live_of_flying {s : State} (inv : LaneInv s) {j : Fin 8} (flying : s.passInFlight j = true) :
    (s.job j).state ≠ .free := by
  intro free
  have coding := ((inv.2 j).1 flying).1
  rw [free] at coding
  cases coding

theorem LaneCase.indexLaw {s : State} {l : Fin 2} {o : Option PassState}
    (became : LaneCase s l o) (candidates : CandidateInv s) (lanes : LaneInv s)
    (jobs : ∀ j, IndexLaw (s.job j))
    (passes : ∀ l : Fin 2, ∀ p ∈ s.lanes[l], PassState.IndexLaw p) :
    ∀ p ∈ o, PassState.IndexLaw p := by
  have live (j : Fin 8) (h : (s.job j).state ≠ .free) : (s.job j).index ≤ 63 := ((jobs j).live h).1
  cases became with
  | stays => exact passes l
  | idles => simp
  | granted j others k rest lane head ready =>
    rintro _ ⟨⟩
    have low := live j (by simp [head_running candidates head])
    exact ⟨low, low⟩
  | @wentOn p b q r c coded coding fits more =>
    rintro _ ⟨⟩
    have run := columnCoded_sameRun s p q b r
    have low := columnCoded_runningIndex_le s q b r (passes l p coded.lane).2
    rw [coding] at run low
    exact ⟨run.startIndex.trans_le (passes l p coded.lane).1, low⟩
  | @climbed p b q r c d coded coding ended =>
    rintro _ ⟨⟩
    have job : d.pass.job = p.job := by
      rw [← ended, ← coding]
      exact ((columnCoded_sameRun s p q b r).trans (finish_sameRun ..)).job
    have running := finish_indexLaw passes coded (coding ▸ ended)
    have results : ((State.passEnded s d).job d.pass.job).index ≤ 63 := by
      rw [job_passEnded, if_pos rfl, passResults_index]
      split_ifs
      · exact live _ (live_of_flying lanes (passInFlight_iff.mpr ⟨l, p, coded.lane, job.symm⟩))
      · exact running
    have low := ladderIndex_le d.pass.pass.ladder results
    exact ⟨low, low⟩

/-- Settles O53: every case of one context and of one lane keeps the ranges. -/
theorem indicesAndBudgetsKept : Obligations.IndicesAndBudgetsKept := by
  intro s t candidates lanes profiles inv stepped
  rw [indexInv_iff] at inv ⊢
  obtain ⟨jobs, passes⟩ := inv
  constructor
  · intro j
    refine step_keeps_context stepped j (fun v h => ⟨h.priority, h.noticeLevel, h.live⟩) ?_
    intro pending inbound v became
    refine became.indexLaw ?_ passes (jobs j) (live_of_flying lanes)
    intro k p ready
    obtain ⟨-, settings, -⟩ := profiles
    have held : p ∈ (s.profiles[k]).content.settings := by rw [ready]; rfl
    obtain ⟨-, -, -, -, -, -, -, default⟩ := (settings k p held).1
    exact default
  · intro l
    obtain ⟨pending, inbound, became⟩ := step_lane stepped l
    exact became.indexLaw candidates lanes jobs passes

end Sys2Proof.Laws
end

/-! ## Contexts with their coding bands -/

section
namespace Sys2Proof.Laws
open Sys2Proof.Machine

section
variable {s u v t : State}

/-- Every way a step can change a context and its coding band, before what settles. -/
inductive WorkCase (s : State) (j : Fin 8) : Option (Fin 2 × PassState) → Job → Prop
  | step {v : Job} (became : JobStep (s.passInFlight j) (s.job j) v) : WorkCase s j (s.coding j) v
  | opened (k : Fin 8) (p : Profile) (r : OpenRequest) (free : (s.job j).state = .free)
    (inRange : openFieldFailure r = none) :
    WorkCase s j (s.coding j) (openedJob k p r)
  | freed : WorkCase s j none freeJob
  | requeued (w : Withheld) (next : Pass) (index budget : Nat)
    (halted : (s.job j).state = .halted) (withheld : (s.job j).withheld = some w) :
    WorkCase s j (s.coding j)
      ({ s.job j with index := index, budget := budget }.requeue w next)
  | resolved (w : Withheld) (halted : (s.job j).state = .halted)
    (withheld : (s.job j).withheld = some w) :
    WorkCase s j (s.coding j) (Job.goOn { bankedJob (s.job j) with withheld := none })
  | loads (q : PixelsRequest) (k : Fin 24) (b : BandSlot) (idle : s.writing = none)
    (slot : s.intakeSlot q = .ok (k, b)) (data : dataRefusal b q = none)
    (member : JobSet.has b.refs j = true) :
    WorkCase s j (s.coding j) { s.job j with loading := some k }
  | filled (w : PixelWrite) (b : BandSlot) (writing : s.inHand = .pixels w)
    (band : s.slots[w.slot] = some b)
    (complete : (b.withPixels w.row w.pixels).allComplete = true)
    (member : JobSet.has b.refs j = true) : WorkCase s j (s.coding j) ((s.job j).bandLoaded w.slot)
  | granted (l : Fin 2) (others : List (Fin 8)) (k : Fin 24) (rest : List (Fin 24))
    (lane : s.lanes[l] = none) (head : s.candidates = j :: others)
    (ready : (s.job j).ready = k :: rest) (room : (s.job j).budget + 16 ≤ s.freeSpace) :
    WorkCase s j
      (some (l, beginPass j k (s.bandIn k) (s.job j).nextPass (s.job j).index))
      ((s.job j).granted rest)
  | wentOn {l : Fin 2} {p : PassState} {b : BandSlot} {q : Profile} {r : Reservation} {c : Coding}
    (coded : Coded s l p b q r) (job : p.job = j) (coding : s.columnCoded p q b r = c)
    (fits : c.pass.overMark = false) (more : p.column + 1 < (s.job j).columns) :
    WorkCase s j (some (l, { c.pass with column := c.pass.column + 1 }))
      { s.job j with
        reservation := (s.job j).reservation.map fun r => { r with area := c.area } }
  | halted {l : Fin 2} {p : PassState} {b : BandSlot} {q : Profile} {r : Reservation} {c d : Coding}
    (coded : Coded s l p b q r) (job : p.job = j) (coding : s.columnCoded p q b r = c)
    (ends : endsHere s c) (ended : c.finish (s.job j).budget = d) :
    WorkCase s j none (haltedJob ((s.job j).passResults d) d.pass)
  | climbed {l : Fin 2} {p : PassState} {b : BandSlot} {q : Profile} {r : Reservation}
    {c d : Coding} (coded : Coded s l p b q r) (job : p.job = j)
    (coding : s.columnCoded p q b r = c) (ended : c.finish (s.job j).budget = d) :
    WorkCase s j
      (some (l, beginPass j p.slot p.band p.pass.ladder
        (ladderIndex p.pass.ladder ((s.job j).passResults d).index)))
      ((s.job j).passResults d)
  | committed {l : Fin 2} {p : PassState} {b : BandSlot} {q : Profile} {r : Reservation}
    {c d : Coding} (coded : Coded s l p b q r) (job : p.job = j)
    (coding : s.columnCoded p q b r = c) (ended : c.finish (s.job j).budget = d) :
    WorkCase s j none (bankedJob ((s.job j).passResults d)).afterCommit

/-! ### The coding band after a change of a lane -/

theorem LanesApart.coding_iff (apart : LanesApart s) {j : Fin 8} {l : Fin 2} {p : PassState} :
    s.coding j = some (l, p) ↔ s.lanes[l] = some p ∧ p.job = j := by
  constructor
  · exact coding_eq_some
  · rintro ⟨lane, rfl⟩
    exact apart.coding_eq lane

theorem LanesApart.eq_of_job (apart : LanesApart s) {l l' : Fin 2} {p p' : PassState}
    (lane : s.lanes[l] = some p) (lane' : s.lanes[l'] = some p') (job : p.job = p'.job) :
    l = l' := by
  have one := apart.coding_eq lane
  have two := apart.coding_eq lane'
  rw [job, two] at one
  cases one
  rfl

/-- The lanes stay apart when the new pass is of the job the lane had, or of one no lane codes. -/
theorem lanesApart_setLane {l : Fin 2} {o : Option PassState}
    (fresh : ∀ p ∈ o, ∀ (l' : Fin 2) (p' : PassState), s.lanes[l'] = some p' → p'.job = p.job →
      l' = l) : LanesApart (s.setLane l o) := by
  intro p hp q hq same
  change (s.setLane l o).lanes[(0 : Fin 2)] = some p at hp
  change (s.setLane l o).lanes[(1 : Fin 2)] = some q at hq
  rw [lanes_setLane] at hp hq
  match l with
  | 0 => exact absurd (fresh p hp 1 q hq same.symm) (by decide)
  | 1 => exact absurd (fresh q hq 0 p hp same) (by decide)

/-- The coding bands after a lane has taken up a pass. -/
theorem LanesApart.coding_setLane_some (apart : LanesApart s) {l : Fin 2} {p : PassState}
    {i : Fin 8} (job : p.job = i)
    (fresh : ∀ (l' : Fin 2) (p' : PassState), s.lanes[l'] = some p' → p'.job = i → l' = l)
    (own : ∀ p' ∈ s.lanes[l], p'.job = i) (j : Fin 8) :
    (s.setLane l (some p)).coding j = if j = i then some (l, p) else s.coding j := by
  subst job
  have apart' : LanesApart (s.setLane l (some p)) :=
    lanesApart_setLane fun _ h => by cases h; exact fresh
  split_ifs with here
  · exact here ▸ apart'.coding_eq (by rw [lanes_setLane, if_pos rfl])
  · refine Option.ext fun ⟨l', p'⟩ => ?_
    rw [apart'.coding_iff, apart.coding_iff, lanes_setLane]
    split_ifs with lane
    · subst lane
      constructor
      · rintro ⟨⟨⟩, job⟩
        exact absurd job.symm here
      · rintro ⟨old, job⟩
        exact absurd (job.symm.trans (own p' old)) here
    · rfl

/-- The coding bands after a lane has become IDLE. -/
theorem LanesApart.coding_setLane_none (apart : LanesApart s) {l : Fin 2} {p : PassState}
    (lane : s.lanes[l] = some p) (j : Fin 8) :
    (s.setLane l none).coding j = if j = p.job then none else s.coding j := by
  have apart' : LanesApart (s.setLane l none) := lanesApart_setLane fun _ h => by cases h
  split_ifs with here
  · refine Option.eq_none_iff_forall_ne_some.mpr fun ⟨l', p'⟩ coding => ?_
    rw [apart'.coding_iff, lanes_setLane] at coding
    split_ifs at coding with other
    · cases coding.1
    · exact other (apart.eq_of_job coding.1 lane (coding.2.trans here))
  · refine Option.ext fun ⟨l', p'⟩ => ?_
    rw [apart'.coding_iff, apart.coding_iff, lanes_setLane]
    split_ifs with mine
    · subst mine
      rw [lane]
      constructor
      · rintro ⟨⟨⟩, -⟩
      · rintro ⟨⟨⟩, job⟩
        exact absurd job.symm here
    · rfl

theorem coding_of_lanes (h : u.lanes = v.lanes) (j : Fin 8) : u.coding j = v.coding j := by
  unfold State.coding
  rw [h]

theorem passInFlight_of_lanes (h : u.lanes = v.lanes) (j : Fin 8) :
    u.passInFlight j = v.passInFlight j := by
  rw [State.passInFlight, coding_of_lanes h, State.passInFlight]

/-- A freed context is coded by no lane; the others as before. -/
theorem LanesApart.coding_freeContext (apart : LanesApart s) (i j : Fin 8) :
    (s.freeContext i).coding j = if j = i then none else s.coding j := by
  have lanes_eq (l : Fin 2) (p : PassState) :
      (s.freeContext i).lanes[l] = some p ↔ s.lanes[l] = some p ∧ p.job ≠ i := by
    rw [lanes_freeContext]
    unfold abandonPass
    split
    · next q lane =>
      rw [lane]
      split_ifs with mine
      · exact ⟨nofun, fun ⟨same, other⟩ => absurd (by cases same; exact mine) other⟩
      · exact ⟨fun same => ⟨same, by cases same; exact mine⟩, And.left⟩
    · next lane => simp [lane]
  have apart' : LanesApart (s.freeContext i) := fun p hp q hq =>
    apart p ((lanes_eq 0 p).mp hp).1 q ((lanes_eq 1 q).mp hq).1
  split_ifs with here
  · refine Option.eq_none_iff_forall_ne_some.mpr fun ⟨l, p⟩ coding => ?_
    rw [apart'.coding_iff, lanes_eq] at coding
    exact coding.1.2 (coding.2.trans here)
  · refine Option.ext fun ⟨l, p⟩ => ?_
    rw [apart'.coding_iff, apart.coding_iff, lanes_eq]
    constructor
    · rintro ⟨⟨lane, -⟩, job⟩
      exact ⟨lane, job⟩
    · rintro ⟨lane, job⟩
      exact ⟨⟨lane, job ▸ here⟩, job⟩

/-- A context that an event leaves as it is, with its coding band. -/
theorem WorkCase.same {j : Fin 8} {o : Option (Fin 2 × PassState)} {v : Job}
    (coding : o = s.coding j) (job : v = s.job j) : WorkCase s j o v := by
  subst coding job
  exact .step .same

/-- The run of a coded column. -/
theorem coded_sameRun {l : Fin 2} {p : PassState} {b : BandSlot} {q : Profile} {r : Reservation}
    {c d : Coding} {budget : Nat} (_coded : Coded s l p b q r)
    (coding : s.columnCoded p q b r = c) (ended : c.finish budget = d) : SameRun p d.pass := by
  rw [← ended, ← coding]
  exact (columnCoded_sameRun s p q b r).trans (finish_sameRun ..)

theorem CoreCase.workCase (h : CoreCase s u) (apart : LanesApart s)
    (idle : ∀ j others, s.candidates = j :: others → s.passInFlight j = false) (j : Fin 8) :
    WorkCase s j (u.coding j) (u.job j) := by
  cases h with
  | jobs slots lanes candidates records writing became =>
    rw [coding_of_lanes lanes]
    exact .step (became j)
  | opened i k p r free ready inRange reloads taken becomes =>
    rw [becomes.job, job_setJob, coding_of_lanes (v := s) becomes.lanes]
    split_ifs with here
    · subst here
      exact .opened k p r free inRange
    · exact .step .same
  | freed i off becomes =>
    rw [becomes.job, job_freeContext, becomes.coding, apart.coding_freeContext]
    split_ifs
    · exact .freed
    · exact .step .same
  | resolved i w c halted withheld source becomes =>
    rw [becomes.job, job_commitWithheld, coding_of_lanes (v := s) becomes.lanes]
    split_ifs with here
    · subst here
      exact .resolved w halted withheld
    · exact .step .same
  | requeued i w next index budget halted withheld indexed budgeted becomes =>
    rw [becomes.job, job_setJob, coding_of_lanes (v := s) becomes.lanes]
    split_ifs with here
    · subst here
      exact .requeued w next index budget halted withheld
    · exact .step .same
  | writeBegun f q k b off slot data becomes =>
    rw [becomes.job, job_beginWrite, coding_of_lanes (v := s) becomes.lanes]
    split_ifs with member
    · exact .loads q k b off slot data member
    · exact .step .same
  | writeDone w writing becomes =>
    rw [becomes.job, coding_of_lanes (v := s) (becomes.lanes.trans (lanes_writeDone w))]
    unfold State.writeDone
    split
    · next b band =>
      change WorkCase s j _ ((s.storeWritten w.slot (b.withPixels w.row w.pixels)).job j)
      rw [job_storeWritten]
      split_ifs with filled
      · exact .filled w b writing band filled.1 filled.2
      · exact .step .same
    · exact .step .same
  | sent n becomes => exact .same (coding_of_lanes becomes.lanes j) (becomes.job j)
  | granted l i others k rest lane head ready room becomes =>
    have off := idle i others head
    have lanes : u.lanes = (s.setLane l
        (some (beginPass i k (s.bandIn k) (s.job i).nextPass (s.job i).index))).lanes := by
      rw [becomes]
      rfl
    rw [coding_of_lanes lanes, apart.coding_setLane_some (i := i) rfl, becomes, job_grantTo]
    · split_ifs with here
      · cases here
        exact .granted l others k rest lane head ready room
      · exact .step .same
    · intro l' p' lane' job
      simp [passInFlight_iff.mpr ⟨l', p', lane', job⟩] at off
    · simp [lane]
  | @wentOn l p b q r c coded coding fits more becomes =>
    have job : c.pass.job = p.job := coding ▸ (columnCoded_sameRun s p q b r).job
    have lanes : u.lanes =
        (s.setLane l (some { c.pass with column := c.pass.column + 1 })).lanes := by
      rw [becomes]
      rfl
    rw [coding_of_lanes lanes, apart.coding_setLane_some (i := p.job) (by exact job), becomes,
      job_nextColumn, job]
    · split_ifs with here
      · cases here
        exact .wentOn coded rfl coding fits more
      · exact .step .same
    · exact fun l' p' lane' same => apart.eq_of_job lane' coded.lane same
    · simp [coded.lane]
  | @halted l p b q r c d coded coding ends ended becomes =>
    have job := (coded_sameRun coded coding ended).job
    have lanes : u.lanes = (s.setLane l none).lanes := by
      rw [becomes]
      rfl
    rw [coding_of_lanes lanes, apart.coding_setLane_none coded.lane, becomes, job_haltPass,
      job_passEnded]
    simp only [job]
    split_ifs with here
    · cases here
      exact .halted coded rfl coding ends ended
    · exact .step .same
  | @climbed l p b q r c d coded coding ended becomes =>
    have run := coded_sameRun coded coding ended
    have lanes : u.lanes = (s.setLane l (some (beginPass d.pass.job d.pass.slot d.pass.band
        d.pass.pass.ladder (ladderIndex d.pass.pass.ladder
          ((State.passEnded s d).job d.pass.job).index)))).lanes := by
      rw [becomes]
      rfl
    rw [coding_of_lanes lanes, apart.coding_setLane_some (i := p.job) (by exact run.job), becomes,
      job_climb, job_passEnded, job_passEnded, if_pos rfl, run.job, run.slot, run.band, run.pass]
    · split_ifs with here
      · cases here
        exact .climbed coded rfl coding ended
      · exact .step .same
    · exact fun l' p' lane' same => apart.eq_of_job lane' coded.lane same
    · simp [coded.lane]
  | @committed l p b q r c d coded coding ended becomes =>
    have job := (coded_sameRun coded coding ended).job
    have lanes : u.lanes = (s.setLane l none).lanes := by
      rw [becomes]
      rfl
    rw [coding_of_lanes lanes, apart.coding_setLane_none coded.lane, becomes, job_commitPass,
      job_passEnded]
    simp only [job]
    split_ifs with here
    · cases here
      exact .committed coded rfl coding ended
    · exact .step .same
  | reset becomes =>
    have free : State.reset.job j = freeJob := by simp [State.job, State.reset]
    have off : State.reset.coding j = none := by simp [State.coding, State.reset]
    rw [becomes.job, becomes.coding, free, off]
    exact .freed

end

end Sys2Proof.Laws
end

/-! ## The candidate list (O6) -/

section
namespace Sys2Proof.Laws
open Sys2Proof.Machine

section
variable {priority : Fin 8 → Nat} {j a b : Fin 8} {list : List (Fin 8)}

theorem mem_insertCandidate : a ∈ insertCandidate priority j list ↔ a = j ∨ a ∈ list := by
  induction list with
  | nil => simp [insertCandidate]
  | cons k rest ih =>
    unfold insertCandidate
    split_ifs
    · simp
    · rw [List.mem_cons, List.mem_cons, ih, or_left_comm]

theorem sublist_insertCandidate : list.Sublist (insertCandidate priority j list) := by
  induction list with
  | nil => simp
  | cons k rest ih =>
    unfold insertCandidate
    split_ifs
    · exact List.sublist_cons_self ..
    · exact ih.cons_cons k

theorem nodup_insertCandidate (fresh : j ∉ list) (nodup : list.Nodup) :
    (insertCandidate priority j list).Nodup := by
  induction list with
  | nil => simp [insertCandidate]
  | cons k rest ih =>
    unfold insertCandidate
    split_ifs
    · exact List.nodup_cons.mpr ⟨fresh, nodup⟩
    · obtain ⟨out, nodup⟩ := List.nodup_cons.mp nodup
      rw [List.mem_cons, not_or] at fresh
      refine List.nodup_cons.mpr ⟨?_, ih fresh.2 nodup⟩
      rw [mem_insertCandidate, not_or]
      exact ⟨fun same => fresh.1 same.symm, out⟩

/-- A list in grant order: none behind a job of lower priority (R101). -/
def GrantOrder (priority : Fin 8 → Nat) (list : List (Fin 8)) : Prop :=
  list.Pairwise fun a b => priority b ≤ priority a

theorem grantOrder_insertCandidate (order : GrantOrder priority list) :
    GrantOrder priority (insertCandidate priority j list) := by
  induction list with
  | nil => exact List.pairwise_singleton ..
  | cons k rest ih =>
    obtain ⟨head, tail⟩ := List.pairwise_cons.mp order
    unfold insertCandidate
    split_ifs with lower
    · refine List.pairwise_cons.mpr ⟨fun x hx => ?_, order⟩
      obtain rfl | hx := List.mem_cons.mp hx
      · exact lower.le
      · exact (head x hx).trans lower.le
    · refine List.pairwise_cons.mpr ⟨fun x hx => ?_, ih tail⟩
      obtain rfl | hx := mem_insertCandidate.mp hx
      · exact not_lt.mp lower
      · exact head x hx

/-- A job that joins goes behind those of its priority. -/
theorem behind_insertCandidate (order : GrantOrder priority list) (mem : a ∈ list)
    (same : priority a = priority j) : [a, j].Sublist (insertCandidate priority j list) := by
  induction list with
  | nil => cases mem
  | cons k rest ih =>
    obtain ⟨head, tail⟩ := List.pairwise_cons.mp order
    unfold insertCandidate
    obtain rfl | later := List.mem_cons.mp mem
    · rw [if_neg (by omega)]
      exact (List.singleton_sublist.mpr (mem_insertCandidate.mpr (.inl rfl))).cons_cons a
    · rw [if_neg (by have := head a later; omega)]
      exact (ih tail later).cons k

end

/-- The list once the jobs of `done` have had their chance to join, in that order. -/
structure Joined (s : State) (done list : List (Fin 8)) : Prop where
  nodup : list.Nodup
  mem : ∀ a, a ∈ list ↔ s.eligible a = true ∧ (a ∈ s.candidates ∨ a ∈ done)
  order : GrantOrder (fun j => (s.job j).priority) list
  kept : list.filter (fun j => s.candidates.contains j) = s.candidates.filter s.eligible
  behind : ∀ a b, a ∈ list → b ∈ list → b ∉ s.candidates →
    (s.job a).priority = (s.job b).priority → (a ∈ s.candidates ∨ a < b) → [a, b].Sublist list

section
variable {s : State} {done list : List (Fin 8)}

theorem joined_start (nodup : s.candidates.Nodup)
    (order : GrantOrder (fun j => (s.job j).priority) (s.candidates.filter s.eligible)) :
    Joined s [] (s.candidates.filter s.eligible) where
  nodup := nodup.filter _
  mem := by simp [and_comm]
  order := order
  kept := by
    refine List.filter_eq_self.mpr fun a mem => ?_
    simpa using (List.mem_filter.mp mem).1
  behind := fun a b _ mem out => absurd (List.mem_filter.mp mem).1 out

theorem filter_insertCandidate {keep : Fin 8 → Bool} {priority : Fin 8 → Nat} {j : Fin 8}
    (out : keep j = false) : (insertCandidate priority j list).filter keep = list.filter keep := by
  induction list with
  | nil => simp [insertCandidate, out]
  | cons k rest ih =>
    unfold insertCandidate
    split_ifs
    · simp [out]
    · simp [List.filter_cons, ih]

theorem Joined.step (h : Joined s done list) {j : Fin 8} (later : ∀ d ∈ done, d < j) :
    Joined s (done ++ [j]) (s.joinIfEligible list j) := by
  unfold State.joinIfEligible
  split_ifs with joins
  · rw [Bool.and_eq_true, Bool.not_eq_true', List.contains_eq_mem, decide_eq_false_iff_not]
      at joins
    obtain ⟨eligible, fresh⟩ := joins
    have out : j ∉ s.candidates := fun mem => fresh ((h.mem j).mpr ⟨eligible, .inl mem⟩)
    refine ⟨nodup_insertCandidate fresh h.nodup, fun a => ?_, grantOrder_insertCandidate h.order,
      ?_, fun a b ha hb outside same before => ?_⟩
    · rw [mem_insertCandidate, h.mem, List.mem_append, List.mem_singleton]
      constructor
      · rintro (rfl | ⟨able, where_⟩)
        · exact ⟨eligible, .inr (.inr rfl)⟩
        · exact ⟨able, where_.imp_right .inl⟩
      · rintro ⟨able, listed | did | rfl⟩
        · exact .inr ⟨able, .inl listed⟩
        · exact .inr ⟨able, .inr did⟩
        · exact .inl rfl
    · rw [filter_insertCandidate (by simpa using out)]
      exact h.kept
    · obtain rfl | inList := mem_insertCandidate.mp hb
      · refine behind_insertCandidate h.order ?_ same
        obtain rfl | ha := mem_insertCandidate.mp ha
        · exact absurd before (by simp [out])
        · exact ha
      · obtain rfl | ha := mem_insertCandidate.mp ha
        · obtain listed | before := before
          · exact absurd listed out
          · have did := ((h.mem b).mp inList).2.resolve_left outside
            exact absurd (later b did) (by omega)
        · exact (h.behind a b ha inList outside same before).trans sublist_insertCandidate
  · refine ⟨h.nodup, fun a => ?_, h.order, h.kept, h.behind⟩
    rw [Bool.and_eq_true, Bool.not_eq_true', List.contains_eq_mem, decide_eq_false_iff_not,
      not_and_not_right] at joins
    rw [h.mem, List.mem_append, List.mem_singleton]
    constructor
    · exact fun ⟨able, where_⟩ => ⟨able, where_.imp_right .inl⟩
    · rintro ⟨able, listed | did | rfl⟩
      · exact ⟨able, .inl listed⟩
      · exact ⟨able, .inr did⟩
      · exact (h.mem a).mp (joins able)

theorem Joined.foldl (rest : List (Fin 8)) : ∀ done list, (done ++ rest).Pairwise (· < ·) →
    Joined s done list → Joined s (done ++ rest) (rest.foldl s.joinIfEligible list) := by
  induction rest with
  | nil => exact fun done list _ h => by simpa using h
  | cons j rest ih =>
    intro done list ascending h
    have before : ∀ d ∈ done, d < j := fun d hd =>
      (List.pairwise_append.mp ascending).2.2 d hd j (by simp)
    rw [List.append_cons] at ascending ⊢
    exact ih (done ++ [j]) _ ascending (h.step before)

/-- The candidate list after an event. -/
theorem joined_updateCandidates (nodup : s.candidates.Nodup)
    (order : GrantOrder (fun j => (s.job j).priority) (s.candidates.filter s.eligible)) :
    Joined s all8 s.updateCandidates.candidates :=
  Joined.foldl all8 [] _ (by decide) (joined_start nodup order)

theorem mem_all8 (j : Fin 8) : j ∈ all8 := by revert j; decide

theorem settle_candidates_eq (s : State) :
    s.settle.candidates = s.updateCandidates.candidates := by
  unfold State.settle State.arbitrate
  split
  · exact choose_candidates _
  · rfl

end

/-- Settles O6: the eligible jobs join one after another, in ascending number. -/
theorem candidatesFollow : Obligations.CandidatesFollow := by
  intro s nodup order
  have joined := joined_updateCandidates nodup (order.sublist List.filter_sublist)
  rw [settle_candidates_eq]
  refine ⟨joined.nodup, fun j => ?_, joined.order, joined.kept, joined.behind⟩
  rw [joined.mem, ← eligible_iff]
  exact and_iff_left (.inr (mem_all8 j))

end Sys2Proof.Laws
end

/-! ## Candidates and lanes (O51) -/

section
namespace Sys2Proof.Laws
open Sys2Proof.Machine

/-- The law of one context beside the lanes (R63, R65, R100, R122). -/
structure FlightLaw (flying : Bool) (v : Job) : Prop where
  coding : flying = true → v.state.coding = true ∧ v.withheld = none
  stopping : v.state.isStopping = true → flying = true
  halted : v.withheld.isSome = true → v.state = .halted

theorem laneInv_iff (s : State) :
    LaneInv s ↔ LanesApart s ∧ ∀ j, FlightLaw (s.passInFlight j) (s.job j) :=
  and_congr_right fun _ => forall_congr' fun _ =>
    ⟨fun ⟨coding, stopping, halted⟩ => ⟨coding, stopping, halted⟩,
      fun h => ⟨h.coding, h.stopping, h.halted⟩⟩

section
variable {s u t : State} {flying : Bool} {v v' : Job} {j : Fin 8}

theorem FlightLaw.of_same (h : FlightLaw flying v) (state : v'.state = v.state)
    (withheld : v'.withheld = v.withheld) : FlightLaw flying v' := by
  constructor <;> rw [state]
  · rw [withheld]
    exact h.coding
  · exact h.stopping
  · rw [withheld]
    exact h.halted

/-- No pass in flight and no withheld band, in a state that is not STOPPING. -/
theorem FlightLaw.of_idle (withheld : v.withheld = none) (state : v.state.isStopping = false) :
    FlightLaw false v :=
  ⟨nofun, by simp [state], by simp [withheld]⟩

theorem FlightLaw.not_flying (h : FlightLaw flying v) (state : v.state.coding = false) :
    flying = false :=
  Bool.eq_false_iff.mpr fun flies => by simp [(h.coding flies).1] at state

theorem FlightLaw.bare (h : FlightLaw flying v) (state : v.state ≠ .halted) :
    v.withheld = none :=
  Option.not_isSome_iff_eq_none.mp fun some => state (h.halted some)

/-- Moving to another state, with what the withheld band then is. -/
theorem FlightLaw.of_coding (withheld : v'.withheld = none) (state : v'.state.coding = true)
    (stopping : v'.state.isStopping = true → flying = true) : FlightLaw flying v' :=
  ⟨fun _ => ⟨state, withheld⟩, stopping, by simp [withheld]⟩

/-- No pass in flight, in a state that is neither RUNNING nor STOPPING. -/
theorem FlightLaw.of_resting (state : v'.state.isStopping = false)
    (halted : v'.withheld.isSome = true → v'.state = .halted) : FlightLaw false v' :=
  ⟨nofun, by simp [state], halted⟩

theorem JobStep.flightLaw (became : JobStep flying v v') (h : FlightLaw flying v) :
    FlightLaw flying v' := by
  have withheld := became.sameJob.withheld
  have moves := became.stateMove
  generalize state : v'.state = st at moves
  cases moves with
  | stays => exact h.of_same state withheld
  | starts opened =>
    exact .of_coding (withheld.trans (h.bare (by simp [opened]))) (by simp [state, JobState.coding])
      (by simp [state, JobState.isStopping])
  | resumes paused =>
    refine .of_coding (withheld.trans (h.bare ?_)) (by simp [state, JobState.coding])
      (by simp [state, JobState.isStopping])
    obtain paused | paused := paused <;> simp [paused]
  | continues halted bare =>
    exact .of_coding (withheld.trans bare) (by simp [state, JobState.coding])
      (by simp [state, JobState.isStopping])
  | finishes paused last =>
    obtain rfl := h.not_flying (by simp [paused, JobState.coding])
    have bare := withheld.trans (h.bare (by simp [paused]))
    exact .of_resting (by simp [state, JobState.isStopping]) (by simp [bare])
  | stops r coding =>
    refine .of_coding (withheld.trans (h.bare ?_)) (by simp [state, JobState.coding]) fun _ => ?_
    · obtain ⟨running, -⟩ | stopping := coding <;> simp [*]
    · obtain ⟨-, flies⟩ | stopping := coding
      · exact flies
      · exact h.stopping (by simp [stopping, JobState.isStopping])
  | pauses running idle =>
    subst idle
    have bare := withheld.trans (h.bare (by simp [running]))
    exact .of_resting (by simp [state, JobState.isStopping]) (by simp [bare])
  | halts idle =>
    have off : flying = false := by
      obtain ⟨-, off⟩ | paused := idle
      · exact off
      · exact h.not_flying (by simp [paused, JobState.coding])
    subst off
    exact .of_resting (by simp [state, JobState.isStopping]) fun _ => state

theorem openedJob_state (k : Fin 8) (p : Profile) (r : OpenRequest) :
    (openedJob k p r).state = .opened := by simp [openedJob]

theorem openedJob_withheld (k : Fin 8) (p : Profile) (r : OpenRequest) :
    (openedJob k p r).withheld = none := by simp [openedJob, freeJob]

theorem WorkCase.flightLaw {o : Option (Fin 2 × PassState)} (became : WorkCase s j o v)
    (eligible : ∀ others, s.candidates = j :: others → (s.job j).state = .running)
    (h : FlightLaw (s.passInFlight j) (s.job j)) : FlightLaw o.isSome v := by
  have halts (halted : (s.job j).state = .halted) : (s.coding j).isSome = false :=
    h.not_flying (by simp [halted, JobState.coding])
  cases became with
  | step became => exact became.flightLaw h
  | opened k p r free =>
    have off : (s.coding j).isSome = false := h.not_flying (by simp [free, JobState.coding])
    rw [off]
    exact .of_idle (openedJob_withheld k p r) (by rw [openedJob_state]; rfl)
  | freed => exact .of_idle rfl rfl
  | requeued w next index budget halted withheld =>
    rw [halts halted]
    exact .of_idle (by simp [Job.requeue]) (by simp [Job.requeue, JobState.isStopping])
  | resolved w halted withheld =>
    rw [halts halted]
    refine .of_idle (by simp) ?_
    rw [goOn_state]
    split_ifs <;> rfl
  | loads => exact h.of_same rfl rfl
  | filled => exact h.of_same rfl rfl
  | granted l others k rest lane head ready room =>
    have running := eligible others head
    exact .of_coding (h.bare (by simp [running])) (by simp [Job.granted, running, JobState.coding])
      fun _ => rfl
  | @wentOn l p b q r c coded job coding fits more =>
    have flies : s.passInFlight j = true := passInFlight_iff.mpr ⟨l, p, coded.lane, job⟩
    rw [flies] at h
    exact h.of_same rfl rfl
  | halted coded job coding ends ended =>
    exact .of_resting (by simp [JobState.isStopping]) (by simp)
  | @climbed l p b q r c d coded job coding ended =>
    have flies : s.passInFlight j = true := passInFlight_iff.mpr ⟨l, p, coded.lane, job⟩
    rw [flies] at h
    exact h.of_same (by simp) (by simp)
  | @committed l p b q r c d coded job coding ended =>
    have flies : s.passInFlight j = true := passInFlight_iff.mpr ⟨l, p, coded.lane, job⟩
    refine .of_idle (by simpa using (h.coding flies).2) ?_
    rw [afterCommit_state]
    split_ifs <;> rfl

/-! ### Every step, by context and coding band -/

theorem Settles.passInFlight (h : Settles s u t) (j : Fin 8) :
    t.passInFlight j = u.passInFlight j :=
  passInFlight_of_lanes h.lanes j

theorem Settles.coding (h : Settles s u t) (j : Fin 8) : t.coding j = u.coding j :=
  coding_of_lanes h.lanes j

theorem Settles.job (h : Settles s u t) (j : Fin 8) :
    t.job j = u.job j ∨ t.job j = { u.job j with noticePending := {} } := by
  obtain rfl | ⟨rfl, -⟩ := h
  · exact settle_job u j
  · exact .inl rfl

theorem head_idle (inv : CandidateInv s) (j : Fin 8) (others : List (Fin 8))
    (head : s.candidates = j :: others) : s.passInFlight j = false := by
  obtain ⟨-, exact, -⟩ := inv
  exact (eligible_iff.mp ((exact j).mp (by simp [head]))).2.1

theorem CoreCase.lanesApart (h : CoreCase s u) (apart : LanesApart s)
    (idle : ∀ j others, s.candidates = j :: others → s.passInFlight j = false) :
    LanesApart u := by
  have of_lanes {v w : State} (lanes : w.lanes = v.lanes) (h : LanesApart v) : LanesApart w := by
    unfold LanesApart
    rw [lanes]
    exact h
  cases h with
  | jobs slots lanes => exact of_lanes lanes apart
  | opened i k p r free ready inRange reloads taken becomes => exact of_lanes becomes.lanes apart
  | freed i off becomes =>
    refine of_lanes becomes.lanes fun p hp q hq => ?_
    have kept (l : Fin 2) (p : PassState) (h : (s.freeContext i).lanes[l] = some p) :
        s.lanes[l] = some p := by
      rw [lanes_freeContext] at h
      obtain same | idles := abandonPass_cases i s.lanes[l]
      · exact same ▸ h
      · rw [idles] at h
        cases h
    exact apart p (kept 0 p hp) q (kept 1 q hq)
  | resolved i w c halted withheld source becomes => exact of_lanes becomes.lanes apart
  | requeued i w next index budget halted withheld indexed budgeted becomes =>
    exact of_lanes becomes.lanes apart
  | writeBegun f q k b off slot data becomes => exact of_lanes becomes.lanes apart
  | writeDone w writing becomes =>
    exact of_lanes (becomes.lanes.trans (lanes_writeDone w)) apart
  | sent n becomes => exact of_lanes becomes.lanes apart
  | granted l i others k rest lane head ready room becomes =>
    have lanes : u.lanes = (s.setLane l (some (beginPass i k (s.bandIn k) (s.job i).nextPass (s.job i).index))).lanes := by
      rw [becomes]
      rfl
    refine of_lanes lanes (lanesApart_setLane ?_)
    rintro _ ⟨⟩ l' p' lane' job
    have off := idle i others head
    have flies : s.passInFlight i = true := passInFlight_iff.mpr ⟨l', p', lane', job⟩
    rw [off] at flies
    cases flies
  | @wentOn l p b q r c coded coding fits more becomes =>
    have same : c.pass.job = p.job := coding ▸ (columnCoded_sameRun s p q b r).job
    have lanes : u.lanes = (s.setLane l (some { c.pass with column := c.pass.column + 1 })).lanes := by
      rw [becomes]
      rfl
    refine of_lanes lanes (lanesApart_setLane ?_)
    rintro _ ⟨⟩ l' p' lane' job
    exact apart.eq_of_job lane' coded.lane (job.trans same)
  | @halted l p b q r c d coded coding ends ended becomes =>
    have lanes : u.lanes = (s.setLane l none).lanes := by
      rw [becomes]
      rfl
    exact of_lanes lanes (lanesApart_setLane fun _ h => by cases h)
  | @climbed l p b q r c d coded coding ended becomes =>
    have lanes : u.lanes = (s.setLane l (some (beginPass d.pass.job d.pass.slot d.pass.band
        d.pass.pass.ladder (ladderIndex d.pass.pass.ladder
          ((State.passEnded s d).job d.pass.job).index)))).lanes := by
      rw [becomes]
      rfl
    refine of_lanes lanes (lanesApart_setLane ?_)
    rintro _ ⟨⟩ l' p' lane' job
    exact apart.eq_of_job lane' coded.lane (job.trans (coded_sameRun coded coding ended).job)
  | @committed l p b q r c d coded coding ended becomes =>
    have lanes : u.lanes = (s.setLane l none).lanes := by
      rw [becomes]
      rfl
    exact of_lanes lanes (lanesApart_setLane fun _ h => by cases h)
  | reset becomes =>
    refine of_lanes becomes.lanes fun p hp => ?_
    simp [State.reset] at hp

end

/-- Every step, by what it makes of one context and its coding band. -/
theorem step_work {s t : State} (candidates : CandidateInv s) (lanes : LaneInv s)
    (h : step s = .next t) (j : Fin 8) :
    ∃ pending inbound v,
      WorkCase { s with pending := pending, inbound := inbound } j (t.coding j) v ∧
      (t.job j = v ∨ t.job j = { v with noticePending := {} }) := by
  obtain ⟨pending, inbound, u, core, settles⟩ := step_core h
  refine ⟨pending, inbound, u.job j, ?_, settles.job j⟩
  rw [settles.coding]
  exact core.workCase lanes.1 (head_idle candidates) j

theorem laneInv_step {s t : State} (candidates : CandidateInv s) (lanes : LaneInv s)
    (h : step s = .next t) : LaneInv t := by
  have law := (laneInv_iff s).mp lanes
  rw [laneInv_iff]
  constructor
  · obtain ⟨pending, inbound, u, core, settles⟩ := step_core h
    unfold LanesApart
    rw [settles.lanes]
    exact core.lanesApart law.1 (head_idle candidates)
  · intro j
    obtain ⟨pending, inbound, v, work, same⟩ := step_work candidates lanes h j
    have kept : FlightLaw (t.coding j).isSome v :=
      work.flightLaw (fun others => head_running candidates) (law.2 j)
    obtain same | noticed := same
    · exact same ▸ kept
    · exact noticed ▸ kept.of_same rfl rfl

/-! ### What a job keeps while it is open (R1, R62) -/

/-- The fields an open job keeps. -/
structure FixedFields (v v' : Job) : Prop where
  profile : v'.profile = v.profile
  width : v'.width = v.width
  height : v'.height = v.height
  columns : v'.columns = v.columns
  bands : v'.bands = v.bands
  priority : v'.priority = v.priority
  tag : v'.tag = v.tag
  mask : v'.mask = v.mask

theorem JobCase.fixed {s : State} {j : Fin 8} {v : Job} (became : JobCase s j v)
    (live : (s.job j).state ≠ .free) (live' : v.state ≠ .free) : FixedFields (s.job j) v := by
  cases became with
  | step became =>
    have same := became.sameJob
    exact ⟨same.profile, same.width, same.height, same.columns, same.bands, same.priority, same.tag,
      same.mask⟩
  | opened k p r free => exact absurd free live
  | freed => exact absurd rfl live'
  | requeued => constructor <;> simp [Job.requeue]
  | resolved => constructor <;> simp
  | loads => constructor <;> rfl
  | filled => constructor <;> rfl
  | granted => constructor <;> rfl
  | coded => constructor <;> rfl
  | ended coded job coding v decided =>
    obtain rfl | rfl | rfl := decided <;> constructor <;> simp

/-! ### The candidate list after a step -/

section
variable {s u t : State}

theorem CoreCase.candidates (h : CoreCase s u) : u.candidates.Sublist s.candidates := by
  have of_eq {v w : State} (same : w.candidates = v.candidates) :
      w.candidates.Sublist v.candidates := same ▸ List.Sublist.refl _
  cases h with
  | jobs slots lanes candidates => exact of_eq candidates
  | opened i k p r free ready inRange reloads taken becomes => exact of_eq becomes.candidates
  | freed i off becomes => exact of_eq (becomes.candidates.trans (freeContext_candidates ..))
  | resolved i w c halted withheld source becomes => exact of_eq becomes.candidates
  | requeued i w next index budget halted withheld indexed budgeted becomes =>
    exact of_eq becomes.candidates
  | writeBegun f q k b off slot data becomes => exact of_eq becomes.candidates
  | writeDone w writing becomes =>
    refine of_eq (becomes.candidates.trans ?_)
    unfold State.writeDone
    split
    · unfold State.storeWritten
      split <;> rfl
    · rfl
  | sent n becomes => exact of_eq becomes.candidates
  | granted l i others k rest lane head ready room becomes =>
    subst becomes
    exact List.erase_sublist
  | wentOn coded coding fits more becomes => exact of_eq (becomes ▸ rfl)
  | halted coded coding ends ended becomes => exact of_eq (becomes ▸ rfl)
  | climbed coded coding ended becomes => exact of_eq (becomes ▸ rfl)
  | committed coded coding ended becomes => exact of_eq (becomes ▸ rfl)
  | reset becomes =>
    rw [becomes.candidates]
    exact List.nil_sublist _

theorem SameCore.eligible (h : SameCore s u) (j : Fin 8) : u.eligible j = s.eligible j := by
  rw [State.eligible, State.eligible, h.job, h.passInFlight]

theorem SameCore.candidateInv (h : SameCore s u) (inv : CandidateInv s) : CandidateInv u := by
  unfold CandidateInv
  simp only [h.candidates, h.eligible, h.job]
  exact inv

theorem reset_job (j : Fin 8) : State.reset.job j = freeJob := by simp [State.job, State.reset]

theorem reset_candidateInv : CandidateInv State.reset := by
  refine ⟨List.nodup_nil, fun j => ?_, List.Pairwise.nil⟩
  rw [eligible_iff, reset_job]
  exact ⟨nofun, fun ⟨running, _⟩ => by cases running⟩

theorem CoreCase.candidateInv (h : CoreCase s u) (inv : CandidateInv s) :
    CandidateInv u.settle := by
  obtain ⟨nodup, exact, order⟩ := inv
  have sub := h.candidates
  have joined : Joined u all8 u.updateCandidates.candidates := by
    refine joined_updateCandidates (sub.nodup nodup) ?_
    refine (order.sublist (List.filter_sublist.trans sub)).imp_of_mem fun {a b} ha hb le => ?_
    have priority (j : Fin 8) (hj : j ∈ u.candidates.filter u.eligible) :
        (u.job j).priority = (s.job j).priority := by
      obtain ⟨mem, able⟩ := List.mem_filter.mp hj
      have was := (eligible_iff.mp ((exact j).mp (sub.subset mem))).1
      have is_ := (eligible_iff.mp able).1
      exact ((h.jobCase j).fixed (by simp [was]) (by simp [is_])).priority
    exact (priority b hb).trans_le (le.trans_eq (priority a ha).symm)
  have same (j : Fin 8) : (u.settle.job j).priority = (u.job j).priority ∧
      u.settle.eligible j = u.eligible j := by
    have lanes := passInFlight_of_lanes (settle_lanes u) j
    obtain same | noticed := settle_job u j
    · rw [State.eligible, State.eligible, lanes, same]
      exact ⟨rfl, rfl⟩
    · rw [State.eligible, State.eligible, lanes, noticed]
      exact ⟨rfl, rfl⟩
  unfold CandidateInv
  simp only [settle_candidates_eq, (same _).1, (same _).2]
  refine ⟨joined.nodup, fun j => ?_, joined.order⟩
  rw [joined.mem]
  exact and_iff_left (.inr (mem_all8 j))

end

theorem candidateInv_step {s t : State} (candidates : CandidateInv s) (h : step s = .next t) :
    CandidateInv t := by
  obtain ⟨pending, inbound, u, core, rfl | ⟨rfl, same | reset⟩⟩ := step_core h
  · exact core.candidateInv candidates
  · exact same.candidateInv candidates
  · exact reset.candidateInv reset_candidateInv

/-- Settles O51: the candidate list is what the joins make of the eligible jobs, and every case keeps
the lanes' law. -/
theorem candidatesAndLanesKept : Obligations.CandidatesAndLanesKept :=
  fun _ _ candidates lanes h => ⟨candidateInv_step candidates h, laneInv_step candidates lanes h⟩

end Sys2Proof.Laws
end

/-! ## The profile table (O59, O60) -/

section
namespace Sys2Proof.Laws
open Sys2Proof.Machine

/-- Settings that a READY slot or a record may hold (R141, R146). -/
def Profile.Sound (p : Profile) : Prop := p.InRange ∧ p.Consistent

/-- A slot's content is in range, and consistent when READY (R141, R146). -/
def ContentLaw (c : ProfileContent) : Prop :=
  ∀ p ∈ c.settings, p.InRange ∧ (c.isReady = true → p.Consistent)

/-- The profile table's laws, by name. -/
structure ProfileLaw (s : State) : Prop where
  factory : s.profiles[(0 : Fin 8)] = { content := .ready factoryProfile, lastSave := none }
  content : ∀ k : Fin 8, ContentLaw (s.profiles[k]).content
  stored : ∀ k : Fin 8, ∀ p ∈ (s.record k).reads true, Profile.Sound p
  saving : ∀ w ∈ s.saving, w.slot ≠ 0 ∧ Profile.Sound w.contents
  used : ∀ j, (s.job j).state ≠ .free →
    (s.job j).profile.any (fun k => (s.profiles[k]).content.isReady) = true
  recalled : ∀ k ∈ s.recallSlot, k ≠ 0 ∧ s.inUse k = 0
  loading : ∀ l ∈ s.startup, l.slot ≠ 0 ∧ ∀ j, (s.job j).state = .free

theorem record_succ (s : State) (i : Fin 7) : s.record i.succ = s.store[i] := by
  simp [State.record]

theorem stored_iff (s : State) :
    (∀ i : Fin 7, ∀ p ∈ (s.store[i]).reads true, Profile.Sound p) ↔
      ∀ k : Fin 8, ∀ p ∈ (s.record k).reads true, Profile.Sound p := by
  constructor
  · intro h k p hp
    obtain rfl | ⟨i, rfl⟩ := Fin.eq_zero_or_eq_succ k
    · cases hp
    · exact h i p (record_succ s i ▸ hp)
  · intro h i p hp
    exact h i.succ p (record_succ s i ▸ hp)

theorem profileInv_iff (s : State) : ProfileInv s ↔ ProfileLaw s :=
  ⟨fun ⟨factory, content, stored, saving, used, recalled, loading⟩ =>
    ⟨factory, content, (stored_iff s).mp stored, saving, used, recalled, loading⟩,
    fun h => ⟨h.factory, h.content, (stored_iff s).mpr h.stored, h.saving, h.used, h.recalled,
      h.loading⟩⟩

section
variable {s u t : State}

/-! ### Use (R143) -/

theorem inUse_eq_zero {k : Fin 8} :
    s.inUse k = 0 ↔ ∀ j, (s.job j).state ≠ .free → (s.job j).profile ≠ some k := by
  unfold State.inUse
  rw [List.countP_eq_zero]
  constructor
  · intro h j live used
    exact h j (mem_all8 j) (by simp [live, used])
  · intro h j _ used
    rw [Bool.and_eq_true, bne_iff_ne, beq_iff_eq] at used
    exact h j used.1 used.2

/-- A slot in use is READY (R143). -/
theorem ProfileLaw.unused (h : ProfileLaw s) {k : Fin 8}
    (unready : (s.profiles[k]).content.isReady = false) : s.inUse k = 0 := by
  refine inUse_eq_zero.mpr fun j live used => ?_
  have ready := h.used j live
  rw [used, Option.any_some, unready] at ready
  cases ready

/-- During the start-up load no slot is in use (R152). -/
theorem ProfileLaw.unused_of_loading (h : ProfileLaw s) {l : StartupLoad}
    (loading : s.startup = some l) (k : Fin 8) : s.inUse k = 0 :=
  inUse_eq_zero.mpr fun j live => absurd ((h.loading l loading).2 j) live

/-! ### What an event does to the table -/

theorem record_of_store (h : u.store = s.store) (k : Fin 8) : u.record k = s.record k := by
  unfold State.record
  rw [h]

/-- Every live context of `u` was live in `s` with the same profile, or was opened on a READY slot. -/
def UsesKept (s u : State) : Prop :=
  ∀ j, (u.job j).state ≠ .free →
    ((s.job j).state ≠ .free ∧ (u.job j).profile = (s.job j).profile) ∨
      (s.inHand = .nothing ∧ s.startup = none) ∧
        (u.job j).profile.any (fun k => (s.profiles[k]).content.isReady) = true

theorem JobCase.uses {j : Fin 8} {v : Job} (became : JobCase s j v) (live : v.state ≠ .free)
    (flying : s.passInFlight j = true → (s.job j).state ≠ .free) :
    ((s.job j).state ≠ .free ∧ v.profile = (s.job j).profile) ∨
      (s.inHand = .nothing ∧ s.startup = none) ∧
        v.profile.any (fun k => (s.profiles[k]).content.isReady) = true := by
  have fixed (was : (s.job j).state ≠ .free) :
      ((s.job j).state ≠ .free ∧ v.profile = (s.job j).profile) :=
    ⟨was, (became.fixed was live).profile⟩
  cases became with
  | step became => exact .inl (fixed fun free => live (became.free_iff.mpr free))
  | opened k p r free ready inRange reloads taken =>
    refine .inr ⟨taken, ?_⟩
    have profile : (openedJob k p r).profile = some k := by simp [openedJob]
    rw [profile, Option.any_some, ready]
    rfl
  | freed => exact absurd rfl live
  | requeued w next index budget halted => exact .inl (fixed (by simp [halted]))
  | resolved halted => exact .inl (fixed (by simp [halted]))
  | loads => exact .inl (fixed live)
  | filled => exact .inl (fixed live)
  | granted => exact .inl (fixed live)
  | coded => exact .inl (fixed live)
  | @ended l p b q r c coded job coding v decided =>
    exact .inl (fixed (flying (passInFlight_iff.mpr ⟨l, p, coded.lane, job⟩)))

theorem UsesKept.of_jobs (jobs : u.jobs = s.jobs) : UsesKept s u := fun j live => by
  have same : u.job j = s.job j := by rw [State.job, jobs, State.job]
  rw [same] at live ⊢
  exact .inl ⟨live, rfl⟩

theorem UsesKept.inUse (uses : UsesKept s u) (busy : s.inHand ≠ .nothing ∨ s.startup ≠ none)
    {k : Fin 8} (unused : s.inUse k = 0) : u.inUse k = 0 :=
  inUse_eq_zero.mpr fun j live => by
    obtain ⟨was, profile⟩ | ⟨⟨idle, loaded⟩, -⟩ := uses j live
    · rw [profile]
      exact inUse_eq_zero.mp unused j was
    · exact absurd busy (by simp [idle, loaded])

/-- What an event does to the table, store and saves: contents change in slots not in use, and only to
lawful ones. -/
structure TableStep (s u : State) : Prop where
  factory : s.profiles[(0 : Fin 8)] = { content := .ready factoryProfile, lastSave := none } →
    u.profiles[(0 : Fin 8)] = { content := .ready factoryProfile, lastSave := none }
  content : ∀ k : Fin 8, (u.profiles[k]).content = (s.profiles[k]).content ∨
    (s.inUse k = 0 ∧ u.jobs = s.jobs ∧ ContentLaw (u.profiles[k]).content)
  stored : ∀ k : Fin 8, u.record k = s.record k ∨
    ∀ p ∈ (u.record k).reads true, Profile.Sound p
  saving : ∀ w ∈ u.saving, w ∈ s.saving ∨ (w.slot ≠ 0 ∧ Profile.Sound w.contents)
  uses : UsesKept s u
  recalling : ∀ k ∈ u.recallSlot, k ∈ s.recallSlot ∨ (k ≠ 0 ∧ u.inUse k = 0)
  startup : ∀ l ∈ u.startup, l ∈ s.startup ∨ (s.startup ≠ none ∧ l.slot ≠ 0)

theorem ProfileLaw.step (h : ProfileLaw s) (change : TableStep s u) : ProfileLaw u where
  factory := change.factory h.factory
  content := by
    intro k
    obtain same | ⟨-, -, law⟩ := change.content k
    · rw [same]
      exact h.content k
    · exact law
  stored := by
    intro k
    obtain same | sound := change.stored k
    · rw [same]
      exact h.stored k
    · exact sound
  saving := fun w hw => (change.saving w hw).elim (h.saving w) id
  used := by
    intro j live
    have ready : (u.job j).profile.any (fun k => (s.profiles[k]).content.isReady) = true := by
      obtain ⟨was, profile⟩ | ⟨-, ready⟩ := change.uses j live
      · rw [profile]
        exact h.used j was
      · exact ready
    cases profile : (u.job j).profile with
    | none => rw [profile] at ready; cases ready
    | some k =>
      rw [profile, Option.any_some] at ready
      rw [Option.any_some]
      obtain same | ⟨unused, jobs, -⟩ := change.content k
      · rw [same]
        exact ready
      · have same : u.job j = s.job j := by rw [State.job, jobs, State.job]
        rw [same] at live profile
        exact absurd profile (inUse_eq_zero.mp unused j live)
  recalled := by
    intro k hk
    obtain was | new := change.recalling k hk
    · obtain ⟨writable, unused⟩ := h.recalled k was
      refine ⟨writable, change.uses.inUse (.inl fun idle => ?_) unused⟩
      simp [State.recallSlot, idle] at was
    · exact new
  loading := by
    intro l hl
    have busy : s.startup ≠ none := by
      obtain was | ⟨busy, -⟩ := change.startup l hl
      · simp [Option.mem_def.mp was]
      · exact busy
    obtain ⟨l', loading⟩ := Option.ne_none_iff_exists'.mp busy
    refine ⟨(change.startup l hl).elim (fun was => (h.loading l was).1) And.right, fun j => ?_⟩
    by_contra live
    obtain ⟨was, -⟩ | ⟨⟨-, idle⟩, -⟩ := change.uses j live
    · exact was ((h.loading l' loading).2 j)
    · exact busy idle

/-- The table, the store and the write in progress are as they were, and nothing more is in hand. -/
theorem TableStep.of_same (profiles : u.profiles = s.profiles) (store : u.store = s.store)
    (saving : u.saving = s.saving) (recalling : ∀ k ∈ u.recallSlot, k ∈ s.recallSlot)
    (startup : u.startup = s.startup) (uses : UsesKept s u) : TableStep s u where
  factory := by rw [profiles]; exact id
  content := fun k => .inl (by rw [profiles])
  stored := fun k => .inl (record_of_store store k)
  saving := fun w hw => .inl (saving ▸ hw)
  uses := uses
  recalling := fun k hk => .inl (recalling k hk)
  startup := fun l hl => .inl (startup ▸ hl)

theorem recallSlot_of_inHand (h : u.inHand = s.inHand) : ∀ k ∈ u.recallSlot, k ∈ s.recallSlot := by
  unfold State.recallSlot
  rw [h]
  exact fun _ => id

theorem recallSlot_of_nothing (h : u.inHand = .nothing) : ∀ k ∈ u.recallSlot, k ∈ s.recallSlot := by
  unfold State.recallSlot
  rw [h]
  exact fun _ => nofun

theorem UsesKept.of_job (job : ∀ j, (u.job j).state = (s.job j).state ∧
    (u.job j).profile = (s.job j).profile) : UsesKept s u := fun j live => by
  obtain ⟨state, profile⟩ := job j
  exact .inl ⟨state ▸ live, profile⟩

/-- What settles leaves the table. -/
theorem settle_tableStep (u : State) : TableStep u u.settle :=
  .of_same (settle_profiles u) (settle_store u) (settle_saving u)
    (recallSlot_of_inHand (settle_inHand u)) (settle_startup u) (.of_job fun j => by
      obtain same | noticed := settle_job u j
      · rw [same]
        exact ⟨rfl, rfl⟩
      · rw [noticed]
        exact ⟨rfl, rfl⟩)

theorem Event.uses (event : Event s u)
    (flying : ∀ j, s.passInFlight j = true → (s.job j).state ≠ .free) : UsesKept s u := by
  obtain ⟨inbound, core⟩ := event.core
  exact fun j live => (core.jobCase j).uses live (flying j)

/-! ### Reads of records -/

theorem reads_true {r : StoreRecord} {passes : Bool} {p : Profile}
    (h : r.reads passes = some p) : r.reads true = some p := by
  cases r with
  | blank => cases h
  | written q crc =>
    simp only [StoreRecord.reads] at h ⊢
    split_ifs at h with sound
    rw [if_pos ⟨trivial, sound.2⟩]
    exact h

theorem fails_reads {r : StoreRecord} (h : r.Fails) : r.reads true = none := by
  obtain ⟨p, crc, rfl, wrong⟩ := h
  simp [StoreRecord.reads, wrong]

theorem contentLaw_empty : ContentLaw .empty := by
  intro p settings
  simp [ProfileContent.settings] at settings

theorem contentLaw_draft {p : Profile} (inRange : p.InRange) : ContentLaw (.draft p) := by
  intro q settings
  obtain rfl : p = q := Option.some.inj settings
  exact ⟨inRange, fun ready => Bool.noConfusion ready⟩

theorem contentLaw_ready {p : Profile} (sound : Profile.Sound p) : ContentLaw (.ready p) := by
  intro q settings
  obtain rfl : p = q := Option.some.inj settings
  exact ⟨sound.1, fun _ => sound.2⟩

/-- The content of one slot is replaced, in a slot that is not in use. -/
theorem TableStep.of_content {k : Fin 8} {c : ProfileContent} (writable : k ≠ 0)
    (unused : s.inUse k = 0) (law : ContentLaw c)
    (profiles : u.profiles = (s.setContent k c).profiles) (jobs : u.jobs = s.jobs)
    (store : u.store = s.store) (saving : u.saving = s.saving)
    (recalling : ∀ k ∈ u.recallSlot, k ∈ s.recallSlot)
    (startup : ∀ l ∈ u.startup, l ∈ s.startup ∨ (s.startup ≠ none ∧ l.slot ≠ 0)) :
    TableStep s u where
  factory := by
    rw [profiles, profiles_setContent, if_neg writable.symm]
    exact id
  content := by
    intro i
    rw [profiles, profiles_setContent]
    split_ifs with here
    · subst here
      exact .inr ⟨unused, jobs, law⟩
    · exact .inl rfl
  stored := fun k => .inl (record_of_store store k)
  saving := fun w hw => .inl (saving ▸ hw)
  uses := .of_jobs jobs
  recalling := fun k hk => .inl (recalling k hk)
  startup := startup

theorem readRecord_ready {k : Fin 8} {passes : Bool} {p : Profile} (h : ProfileLaw s)
    (reads : readRecord (s.record k) passes = .contents p true) : Profile.Sound p := by
  obtain ⟨-, blank⟩ | ⟨q, sound, contents⟩ | ⟨q, -, -, contents⟩ :=
    readRecord_cases (s.record k) passes
  · rw [blank] at reads
    cases reads
  · rw [contents] at reads
    cases reads
    exact h.stored k p (reads_true sound)
  · rw [contents] at reads
    cases reads

theorem loadNext_cases (v : State) (k : Fin 8) :
    ∀ l ∈ (v.loadNext k).startup, l.slot ≠ 0 := by
  unfold State.loadNext
  split
  · rintro _ ⟨⟩
    exact Fin.ne_of_val_ne (Nat.succ_ne_zero _)
  · nofun

theorem loadNext_same (v : State) (k : Fin 8) :
    (v.loadNext k).profiles = v.profiles ∧ (v.loadNext k).jobs = v.jobs ∧
      (v.loadNext k).store = v.store ∧ (v.loadNext k).saving = v.saving ∧
      (v.loadNext k).inHand = v.inHand := by
  unfold State.loadNext
  split <;> exact ⟨rfl, rfl, rfl, rfl, rfl⟩

theorem loadRead_tableStep (h : ProfileLaw s) {load : StartupLoad} (passes : Bool)
    (loading : s.startup = some load) : TableStep s (s.loadRead load passes) := by
  have writable := (h.loading load loading).1
  have busy : s.startup ≠ none := by simp [loading]
  have done (v : State) (c : ProfileContent) (law : ContentLaw c)
      (profiles : v.profiles = (s.setContent load.slot c).profiles) (jobs : v.jobs = s.jobs)
      (store : v.store = s.store) (saving : v.saving = s.saving) (inHand : v.inHand = s.inHand) :
      TableStep s (v.loadNext load.slot) := by
    obtain ⟨profiles', jobs', store', saving', inHand'⟩ := loadNext_same v load.slot
    exact .of_content writable (h.unused_of_loading loading _) law (profiles'.trans profiles)
      (jobs'.trans jobs) (store'.trans store) (saving'.trans saving)
      (recallSlot_of_inHand (inHand'.trans inHand))
      fun l hl => .inr ⟨busy, loadNext_cases v _ l hl⟩
  unfold State.loadRead
  split
  · exact done _ .empty contentLaw_empty rfl rfl rfl rfl rfl
  · next reads => exact done _ _ (contentLaw_ready (readRecord_ready h reads)) rfl rfl rfl rfl rfl
  · split
    · refine { TableStep.of_same rfl rfl rfl (recallSlot_of_inHand rfl) rfl (.of_jobs rfl) with
        startup := ?_ }
      rintro _ ⟨⟩
      exact .inr ⟨busy, writable⟩
    · exact done _ .empty contentLaw_empty rfl rfl rfl rfl rfl

theorem recallRead_tableStep (h : ProfileLaw s) {k : Fin 8} {attempts : Nat} (passes : Bool)
    (recalling : s.inHand = .recall k attempts) :
    TableStep s (s.recallRead k attempts passes) := by
  have inHand : k ∈ s.recallSlot := by simp [State.recallSlot, recalling]
  obtain ⟨writable, unused⟩ := h.recalled k inHand
  unfold State.recallRead
  split
  · exact .of_same rfl rfl rfl (recallSlot_of_nothing rfl) rfl (.of_jobs rfl)
  · next reads =>
    exact .of_content writable unused (contentLaw_ready (readRecord_ready h reads)) rfl rfl rfl rfl
      (recallSlot_of_nothing rfl) fun l hl => .inl hl
  · split
    · refine .of_same rfl rfl rfl ?_ rfl (.of_jobs rfl)
      rintro _ ⟨⟩
      exact inHand
    · exact .of_same rfl rfl rfl (recallSlot_of_nothing rfl) rfl (.of_jobs rfl)

/-! ### Group writes keep settings in range (R141, R145) -/

theorem baseStepAt_bounds (payload : List Byte) (offset : Nat) :
    1 ≤ baseStepAt payload offset ∧ baseStepAt payload offset ≤ 255 := by
  unfold baseStepAt clampNat
  omega

theorem thresholdAt_le (payload : List Byte) (offset : Nat) : thresholdAt payload offset ≤ 255 := by
  unfold thresholdAt clampInt
  omega

theorem skinBoundAt_bounds (payload : List Byte) (offset : Nat) :
    -255 ≤ skinBoundAt payload offset ∧ skinBoundAt payload offset ≤ 255 := by
  unfold skinBoundAt clampInt
  omega

theorem setZone_inRange {p : Profile} (h : p.InRange) (zone : Zone) {z : ZoneSettings}
    (inRange : z.InRange) : (p.setZone zone z).InRange := by
  obtain ⟨name, y, c, ⟨bright, flat, skin, shadow, mid⟩, rest⟩ := h
  cases zone with
  | brightDetail => exact ⟨name, y, c, ⟨inRange, flat, skin, shadow, mid⟩, rest⟩
  | brightFlat => exact ⟨name, y, c, ⟨bright, inRange, skin, shadow, mid⟩, rest⟩
  | skin => exact ⟨name, y, c, ⟨bright, flat, inRange, shadow, mid⟩, rest⟩
  | shadow => exact ⟨name, y, c, ⟨bright, flat, skin, inRange, mid⟩, rest⟩
  | mid => exact ⟨name, y, c, ⟨bright, flat, skin, shadow, inRange⟩, rest⟩

theorem writeGroup_inRange {old : Profile} {payload : List Byte} {w : GroupWrite}
    (h : old.InRange) (written : writeGroup old payload = .ok w) : w.settings.InRange := by
  unfold writeGroup at written
  obtain ⟨name, y, c, zones, ts, us, vs, start⟩ := h
  split at written
  · cases written
    have step := baseStepAt_bounds payload
    exact ⟨name, ⟨step 1, step 2, step 3, step 4⟩, ⟨step 5, step 6, step 7, step 8⟩, zones, ts, us,
      vs, start⟩
  · unfold writeZone at written
    split at written
    · cases written
    · split at written
      · cases written
      · cases written
        refine setZone_inRange ⟨name, y, c, zones, ts, us, vs, start⟩ _ ?_
        simp only [ZoneSettings.InRange, clampNat]
        omega
  · cases written
    have threshold := thresholdAt_le payload
    have skin := skinBoundAt_bounds payload
    exact ⟨name, y, c, zones, ⟨threshold 1, threshold 3, threshold 5⟩,
      ⟨(skin 7).1, (skin 7).2, (skin 9).1, (skin 9).2⟩,
      ⟨(skin 11).1, (skin 11).2, (skin 13).1, (skin 13).2⟩, start⟩
  · cases written
    refine ⟨?_, y, c, zones, ts, us, vs, ?_⟩
    · simp [writeName, maxNameLength]
    · simp only [writeName, clampNat]
      omega
  · cases written

theorem factoryProfile_sound : Profile.Sound factoryProfile := by
  refine ⟨?_, ?_⟩
  · simp [Profile.InRange, BaseSteps.InRange, ZoneSettings.InRange, factoryProfile]
  · simp [Profile.Consistent, factoryProfile]

theorem orFactory_inRange {c : ProfileContent} (law : ContentLaw c) : c.orFactory.InRange := by
  unfold ProfileContent.orFactory
  cases settings : c.settings with
  | none => exact factoryProfile_sound.1
  | some p => exact (law p settings).1

theorem commitFailure_eq_none {p : Profile} (sound : commitFailure p = none) : p.Consistent := by
  unfold commitFailure at sound
  unfold Profile.Consistent
  split_ifs at sound
  omega

/-! ### Every event -/

theorem commitWithheld_table (s : State) (j : Fin 8) (c : CommitSource) :
    (s.commitWithheld j c).profiles = s.profiles ∧ (s.commitWithheld j c).store = s.store ∧
      (s.commitWithheld j c).saving = s.saving ∧ (s.commitWithheld j c).inHand = s.inHand ∧
      (s.commitWithheld j c).startup = s.startup := by
  simp [State.commitWithheld]

/-- The last save result of a slot other than 0 changes no content. -/
theorem profiles_setLastSave (k i : Fin 8) (r : Option SaveResult) :
    (s.profiles.set k { s.profiles[k] with lastSave := r })[i] =
      if i = k then { s.profiles[i] with lastSave := r } else s.profiles[i] := by
  by_cases here : i = k
  · subst here
    simp
  · have apart : k.val ≠ i.val := fun same => here (Fin.ext same.symm)
    simp [here, apart]

theorem Effect.tableStep {v : State} (h : ProfileLaw s) (effect : Effect s v)
    (uses : UsesKept s v) : TableStep s v := by
  cases effect with
  | nothing => exact .of_same rfl rfl rfl (recallSlot_of_inHand rfl) rfl uses
  | job => exact .of_same rfl rfl rfl (recallSlot_of_inHand rfl) rfl uses
  | opened => exact .of_same rfl rfl rfl (recallSlot_of_inHand rfl) rfl uses
  | freed j =>
    exact .of_same (freeContext_profiles s j) (freeContext_store s j) (freeContext_saving s j)
      (recallSlot_of_inHand (freeContext_inHand s j)) (freeContext_startup s j) uses
  | resolved j w c =>
    obtain ⟨profiles, store, saving, inHand, startup⟩ := commitWithheld_table s j c
    exact .of_same profiles store saving (recallSlot_of_inHand inHand) startup uses
  | requeued => exact .of_same rfl rfl rfl (recallSlot_of_inHand rfl) rfl uses
  | drafted k payload w writable unused written =>
    refine .of_content (c := .draft w.settings) writable unused ?_ rfl rfl rfl rfl
      (recallSlot_of_inHand rfl) fun l hl => .inl hl
    exact contentLaw_draft (writeGroup_inRange (orFactory_inRange (h.content k)) written)
  | committed k p draft sound =>
    have unready : (s.profiles[k]).content.isReady = false := by rw [draft]; rfl
    have writable : k ≠ 0 := by
      rintro rfl
      rw [h.factory] at draft
      cases draft
    have inRange := (h.content k p (by rw [draft]; rfl)).1
    exact .of_content writable (h.unused unready)
      (contentLaw_ready ⟨inRange, commitFailure_eq_none sound⟩) rfl rfl rfl rfl (recallSlot_of_inHand rfl)
      fun l hl => .inl hl
  | saved k p writable ready =>
    obtain ⟨inRange, consistent⟩ := h.content k p (by rw [ready]; rfl)
    have profiles (i : Fin 8) : (s.beginSave k p).profiles[i] =
        if i = k then { s.profiles[i] with lastSave := none } else s.profiles[i] :=
      profiles_setLastSave k i none
    refine ⟨fun factory => ?_, fun i => .inl ?_, fun _ => .inl rfl, fun w hw => ?_, uses,
      fun _ hk => .inl hk, fun _ hl => .inl hl⟩
    · rw [profiles, if_neg writable.symm, factory]
    · rw [profiles]
      split_ifs <;> rfl
    · cases hw
      exact .inr ⟨writable, inRange, consistent (by rw [ready]; rfl)⟩
  | linkSet => exact .of_same rfl rfl rfl (recallSlot_of_inHand rfl) rfl uses
  | linkCleared => exact .of_same rfl rfl rfl (recallSlot_of_inHand rfl) rfl uses

theorem cutOffWrite_saving (s : State) : s.cutOffWrite.saving = none := by
  unfold State.cutOffWrite
  cases saving : s.saving with
  | none => exact saving
  | some w => rfl

theorem cutOffWrite_stored (s : State) (k : Fin 8) :
    s.cutOffWrite.record k = s.record k ∨
      ∀ p ∈ (s.cutOffWrite.record k).reads true, Profile.Sound p := by
  by_cases slot : k = 0
  · subst slot
    exact .inl rfl
  · obtain ⟨cut, kept⟩ := cutOffWrite_store s k slot
    by_cases mine : ∃ w, s.saving = some w ∧ w.slot = k
    · obtain ⟨w, saving, here⟩ := mine
      refine .inr ?_
      rw [fails_reads (cut w saving here)]
      exact fun _ => nofun
    · exact .inl (kept fun w saving here => mine ⟨w, saving, here⟩)

theorem recordAfterWrite_sound (old : StoreRecord) {p : Profile} (sound : Profile.Sound p)
    (passes : Bool) : ∀ q ∈ (recordAfterWrite old p passes).reads true, Profile.Sound q := by
  obtain ⟨good, bad⟩ := recordAfterWrite_spec old p passes
  intro q hq
  cases passes with
  | true =>
    rw [good rfl, StoreRecord.reads, if_pos ⟨rfl, rfl⟩] at hq
    obtain rfl : p = q := Option.some.inj hq
    exact sound
  | false =>
    rw [fails_reads (bad rfl)] at hq
    cases hq

theorem writeDone_table (s : State) (w : PixelWrite) :
    (State.writeDone s w).profiles = s.profiles ∧ (State.writeDone s w).store = s.store ∧
      (State.writeDone s w).saving = s.saving ∧ (State.writeDone s w).startup = s.startup ∧
      (State.writeDone s w).inHand = .nothing := by
  unfold State.writeDone
  split
  · unfold State.storeWritten
    split <;> exact ⟨rfl, rfl, rfl, rfl, rfl⟩
  · exact ⟨rfl, rfl, rfl, rfl, rfl⟩

theorem goodFrame_table (s : State) (f : Frame) (noisy : Bool) :
    (s.goodFrame f noisy).profiles = s.profiles ∧ (s.goodFrame f noisy).store = s.store ∧
      (s.goodFrame f noisy).saving = s.saving ∧ (s.goodFrame f noisy).startup = s.startup ∧
      (s.goodFrame f noisy).inHand = s.inHand := by
  unfold State.goodFrame
  split <;> exact ⟨rfl, rfl, rfl, rfl, rfl⟩

theorem linkIncrement_table (s : State) :
    s.linkIncrement.profiles = s.profiles ∧ s.linkIncrement.store = s.store ∧
      s.linkIncrement.saving = s.saving ∧ s.linkIncrement.startup = s.startup ∧
      s.linkIncrement.inHand = s.inHand := by
  unfold State.linkIncrement
  split_ifs <;> exact ⟨rfl, rfl, rfl, rfl, rfl⟩

theorem Event.tableStep (h : ProfileLaw s) (event : Event s u) (uses : UsesKept s u) :
    TableStep s u := by
  cases event with
  | unchanged => exact .of_same rfl rfl rfl (recallSlot_of_inHand rfl) rfl uses
  | @answered f rest _ ready head answers =>
    obtain ⟨v, code, data, effect, rfl⟩ := answers
    have step : TableStep { s with inbound := rest } v := effect.tableStep ⟨h.factory, h.content,
      h.stored, h.saving, h.used, h.recalled, h.loading⟩ uses
    exact ⟨step.factory, step.content, step.stored, step.saving, uses, step.recalling,
      step.startup⟩
  | resetAsked ready head =>
    refine .of_same rfl rfl rfl ?_ rfl uses
    exact fun _ => nofun
  | recallTaken k ready head writable unused =>
    refine ⟨id, fun _ => .inl rfl, fun _ => .inl rfl, fun _ hw => .inl hw, uses, fun i hi => ?_,
      fun _ hl => .inl hl⟩
    obtain rfl : k = i := Option.some.inj hi
    exact .inr ⟨writable, unused⟩
  | writeBegun q k b ready head slot data =>
    refine .of_same rfl rfl rfl ?_ rfl uses
    exact fun _ => nofun
  | writeDone w data writing =>
    obtain ⟨profiles, store, saving, startup, inHand⟩ := writeDone_table s w
    exact .of_same profiles store saving (recallSlot_of_nothing inHand) startup uses
  | loaded load passes loading => exact loadRead_tableStep h passes loading
  | recalled k attempts passes idle recalling => exact recallRead_tableStep h passes recalling
  | saveEnded w passes r saving =>
    obtain ⟨writable, sound⟩ := h.saving w saving
    refine ⟨fun factory => ?_, fun i => .inl ?_, fun i => ?_, fun _ => nofun, uses,
      fun i hi => .inl ?_, fun l hl => .inl ?_⟩
    · exact (profiles_setLastSave w.slot 0 (some r)).trans
        ((if_neg writable.symm).trans factory)
    · refine (congrArg ProfileSlot.content (profiles_setLastSave w.slot i (some r))).trans ?_
      split_ifs <;> rfl
    · have record : ((s.setRecord w.slot
          (recordAfterWrite (s.record w.slot) w.contents passes)).record i) = _ :=
        setRecord_record s w.slot i _ writable
      split_ifs at record with here
      · refine .inr ?_
        have sound := recordAfterWrite_sound (s.record w.slot) sound passes
        rw [← record] at sound
        exact sound
      · exact .inl record
    · simpa [State.recallSlot] using hi
    · simpa using hl
  | reset =>
    refine ⟨fun factory => ?_, fun k => .inl ?_, fun k => cutOffWrite_stored s k, fun w hw => ?_,
      uses, fun _ => nofun, fun _ => nofun⟩
    · simp only [State.softResetValues, Fin.getElem_fin, Vector.getElem_ofFn] at factory ⊢
      rw [factory]
    · simp [State.softResetValues]
    · have none_ : s.softResetValues.saving = none := cutOffWrite_saving s
      rw [none_] at hw
      cases hw
  | received b framing noisy mode =>
    exact .of_same rfl rfl rfl (recallSlot_of_inHand rfl) rfl uses
  | broken => exact .of_same rfl rfl rfl (recallSlot_of_inHand rfl) rfl uses
  | atMark => exact .of_same rfl rfl rfl (recallSlot_of_inHand rfl) rfl uses
  | goodFrame f noisy =>
    obtain ⟨profiles, store, saving, startup, inHand⟩ :=
      goodFrame_table { s with reception := none, receiver := .waiting } f noisy
    exact .of_same profiles store saving (recallSlot_of_inHand inHand) startup uses
  | badFrame =>
    obtain ⟨profiles, store, saving, startup, inHand⟩ := linkIncrement_table
      { s with reception := none, receiver := .waiting,
               totals := { s.totals with bad := riseTotal s.totals.bad } }
    exact .of_same profiles store saving (recallSlot_of_inHand inHand) startup uses
  | replySent => exact .of_same rfl rfl rfl (recallSlot_of_inHand rfl) rfl uses
  | noticeSent => exact .of_same rfl rfl rfl (recallSlot_of_inHand rfl) rfl uses
  | segmentSent n => exact .of_same rfl rfl rfl (recallSlot_of_inHand rfl) rfl uses
  | timed j v became => exact .of_same rfl rfl rfl (recallSlot_of_inHand rfl) rfl uses
  | granted => exact .of_same rfl rfl rfl (recallSlot_of_inHand rfl) rfl uses
  | wentOn => exact .of_same rfl rfl rfl (recallSlot_of_inHand rfl) rfl uses
  | halted => exact .of_same rfl rfl rfl (recallSlot_of_inHand rfl) rfl uses
  | climbed => exact .of_same rfl rfl rfl (recallSlot_of_inHand rfl) rfl uses
  | committed => exact .of_same rfl rfl rfl (recallSlot_of_inHand rfl) rfl uses

/-! ### Every step -/

theorem bootProfiles (k : Fin 8) :
    State.reset.profiles[k] =
      if k = 0 then { content := .ready factoryProfile, lastSave := none }
      else { content := .empty, lastSave := none } := by
  revert k
  decide

theorem boot_job (s : State) (cause : ResetCause) (straps : Straps) (j : Fin 8) :
    (s.boot cause straps).job j = freeJob := reset_job j

theorem boot_profileLaw (h : ProfileLaw s) (cause : ResetCause) (straps : Straps) :
    ProfileLaw (s.boot cause straps) where
  factory := bootProfiles 0
  content := by
    intro k
    have profiles : (s.boot cause straps).profiles[k] = State.reset.profiles[k] := rfl
    rw [profiles, bootProfiles]
    split_ifs
    · exact contentLaw_ready factoryProfile_sound
    · exact contentLaw_empty
  stored := by
    intro k
    have record : (s.boot cause straps).record k = s.cutOffWrite.record k := rfl
    rw [record]
    obtain same | sound := cutOffWrite_stored s k
    · rw [same]
      exact h.stored k
    · exact sound
  saving := fun _ => nofun
  used := fun j live => absurd (by rw [boot_job]; rfl) live
  recalled := fun _ => nofun
  loading := by
    rintro _ ⟨⟩
    exact ⟨by decide, fun j => by rw [boot_job]; rfl⟩

theorem powerLost_tableStep (s : State) :
    TableStep s { s.cutOffWrite with powered := false } where
  factory := by
    rw [show ({ s.cutOffWrite with powered := false } : State).profiles = s.profiles from
      cutOffWrite_profiles s]
    exact id
  content := fun k => .inl (by
    rw [show ({ s.cutOffWrite with powered := false } : State).profiles = s.profiles from
      cutOffWrite_profiles s])
  stored := cutOffWrite_stored s
  saving := fun w hw => by
    rw [show ({ s.cutOffWrite with powered := false } : State).saving = none from
      cutOffWrite_saving s] at hw
    cases hw
  uses := .of_jobs (cutOffWrite_jobs s)
  recalling := fun k hk => .inl (recallSlot_of_inHand (u := s.cutOffWrite)
    (cutOffWrite_inHand s) k hk)
  startup := fun l hl => .inl (cutOffWrite_startup s ▸ hl)

theorem tick_tableStep (s : State) :
    TableStep s (s.mapJobs fun j job => job.baseTick (s.passInFlight j)) :=
  .of_same rfl rfl rfl (recallSlot_of_inHand rfl) rfl fun j live => by
    have became : JobStep (s.passInFlight j) (s.job j)
        ((s.mapJobs fun j job => job.baseTick (s.passInFlight j)).job j) := by
      rw [job_mapJobs]
      exact baseTick_jobStep ..
    exact .inl ⟨fun free => live (became.free_iff.mpr free), became.sameJob.profile⟩

/-- Every step is a change of the table, and then what settles; or a power-on or pin reset. -/
theorem StepCase.table (h : ProfileLaw s)
    (flying : ∀ j, s.passInFlight j = true → (s.job j).state ≠ .free) (stepped : StepCase s t) :
    (∃ u, TableStep s u ∧ (t = u ∨ t = u.settle)) ∨
      ∃ cause straps, t = s.boot cause straps := by
  cases stepped with
  | idle same =>
    exact .inl ⟨s, .of_same rfl rfl rfl (recallSlot_of_inHand rfl) rfl (.of_jobs rfl), .inl same⟩
  | boot cause straps booted => exact .inr ⟨cause, straps, booted⟩
  | powerLost lost => exact .inl ⟨_, powerLost_tableStep s, .inl lost⟩
  | ticked tick => exact .inl ⟨_, tick_tableStep s, .inr tick⟩
  | event c u powered due settled =>
    have event := event_cases powered due
    exact .inl ⟨u, event.tableStep h (event.uses flying), .inr settled⟩

theorem step_table {s t : State} (lanes : LaneInv s) (h : ProfileLaw s)
    (stepped : step s = .next t) : ∃ rest,
      (∃ u, TableStep { s with pending := rest } u ∧ (t = u ∨ t = u.settle)) ∨
        ∃ cause straps, t = State.boot { s with pending := rest } cause straps := by
  obtain ⟨rest, stepped⟩ := step_cases stepped
  have law : ProfileLaw { s with pending := rest } :=
    ⟨h.factory, h.content, h.stored, h.saving, h.used, h.recalled, h.loading⟩
  exact ⟨rest, stepped.table law fun j => live_of_flying lanes⟩

end

/-- Settles O59: contents change only in slots not in use, and to lawful ones. -/
theorem profilesKept : Obligations.ProfilesKept := by
  intro s t lanes inv stepped
  rw [profileInv_iff] at inv ⊢
  obtain ⟨rest, ⟨u, change, settled⟩ | ⟨cause, straps, rfl⟩⟩ := step_table lanes inv stepped
  all_goals
    have law : ProfileLaw { s with pending := rest } := ⟨inv.factory, inv.content, inv.stored,
      inv.saving, inv.used, inv.recalled, inv.loading⟩
  · obtain rfl | rfl := settled
    · exact law.step change
    · exact (law.step change).step (settle_tableStep u)
  · exact boot_profileLaw law cause straps

/-- Settles O60: a live context keeps its fixed fields in every case, and a slot in use is among those
whose content no event changes. -/
theorem fixedWhileOpen : Obligations.FixedWhileOpen := by
  intro s t stepped
  constructor
  · intro j live live'
    obtain ⟨pending, inbound, v, became, same⟩ := step_context stepped j
    have state : (t.job j).state = v.state := by obtain same | same := same <;> rw [same]
    have fixed := became.fixed live (state ▸ live')
    obtain same | same := same <;> rw [same] <;>
      exact ⟨fixed.profile, fixed.width, fixed.height, fixed.columns, fixed.bands, fixed.priority,
        fixed.tag, fixed.mask⟩
  · intro lanes inv k used used'
    rw [profileInv_iff] at inv
    obtain ⟨rest, ⟨u, change, settled⟩ | ⟨cause, straps, rfl⟩⟩ := step_table lanes inv stepped
    · have content : (t.profiles[k]).content = (u.profiles[k]).content := by
        obtain rfl | rfl := settled
        · rfl
        · rw [settle_profiles]
      obtain same | ⟨unused, -⟩ := change.content k
      · exact content.trans same
      · exact absurd unused used.ne'
    · refine absurd (inUse_eq_zero.mpr fun j live => ?_) used'.ne'
      exact absurd (by rw [boot_job]; rfl) live

end Sys2Proof.Laws
end

/-! ## The link's counts (O50) -/

section
namespace Sys2Proof.Laws
open Sys2Proof.Machine

/-- The link's ranges, by name. -/
structure LinkLaw (s : State) : Prop where
  threshold : 1 ≤ s.threshold ∧ s.threshold ≤ 255 ∧ s.errorCounter ≤ s.threshold
  totals : s.totals.bad ≤ 65535 ∧ s.totals.noisy ≤ 65535 ∧ s.totals.overrun ≤ 65535 ∧
    s.totals.breaks ≤ 65535
  inbound : s.inbound.length ≤ 8
  replies : s.replies.length ≤ 16
  reserved : s.inHand ≠ .nothing → s.replies.length ≤ 15
  reception : ∀ r ∈ s.reception, r.bytes.length ≤ 4103

theorem linkInv_iff (s : State) : LinkInv s ↔ LinkLaw s :=
  ⟨fun ⟨threshold, totals, inbound, replies, reserved, reception⟩ =>
    ⟨threshold, totals, inbound, replies, reserved, reception⟩,
    fun h => ⟨h.threshold, h.totals, h.inbound, h.replies, h.reserved, h.reception⟩⟩

/-- The states agree on the link's counts and queues. -/
structure SameLink (s u : State) : Prop where
  threshold : u.threshold = s.threshold
  errorCounter : u.errorCounter = s.errorCounter
  totals : u.totals = s.totals
  inbound : u.inbound = s.inbound
  replies : u.replies = s.replies
  inHand : u.inHand = s.inHand
  reception : u.reception = s.reception

section
variable {s u v t : State}

theorem SameLink.refl (s : State) : SameLink s s := ⟨rfl, rfl, rfl, rfl, rfl, rfl, rfl⟩

theorem LinkLaw.of_same (h : LinkLaw s) (same : SameLink s u) : LinkLaw u where
  threshold := by rw [same.threshold, same.errorCounter]; exact h.threshold
  totals := by rw [same.totals]; exact h.totals
  inbound := by rw [same.inbound]; exact h.inbound
  replies := by rw [same.replies]; exact h.replies
  reserved := by rw [same.inHand, same.replies]; exact h.reserved
  reception := by rw [same.reception]; exact h.reception

theorem settle_sameLink (u : State) : SameLink u u.settle :=
  ⟨settle_threshold u, settle_errorCounter u, settle_totals u, settle_inbound u, settle_replies u,
    settle_inHand u, settle_reception u⟩

/-- A power-on, pin or soft reset. -/
theorem LinkLaw.of_reset (same : SameLink State.reset u) : LinkLaw u :=
  LinkLaw.of_same
    { threshold := by decide
      totals := by decide
      inbound := Nat.zero_le _
      replies := Nat.zero_le _
      reserved := fun _ => Nat.zero_le _
      reception := fun _ some => by cases some } same

/-! ### Requests -/

/-- The counts an effect of a request leaves, and the queues it does not touch. -/
theorem Effect.linkLaw (h : LinkLaw s) (effect : Effect s v) : LinkLaw v ∧ v.replies = s.replies ∧
    v.inHand = s.inHand := by
  have same {w : State} (same : SameLink s w) :
      LinkLaw w ∧ w.replies = s.replies ∧ w.inHand = s.inHand :=
    ⟨h.of_same same, same.replies, same.inHand⟩
  cases effect with
  | nothing => exact same (.refl s)
  | job => exact same ⟨rfl, rfl, rfl, rfl, rfl, rfl, rfl⟩
  | opened => exact same ⟨rfl, rfl, rfl, rfl, rfl, rfl, rfl⟩
  | freed j => exact same (by constructor <;> simp)
  | resolved j w c => exact same (by constructor <;> simp [State.commitWithheld])
  | requeued => exact same ⟨rfl, rfl, rfl, rfl, rfl, rfl, rfl⟩
  | drafted => exact same ⟨rfl, rfl, rfl, rfl, rfl, rfl, rfl⟩
  | committed => exact same ⟨rfl, rfl, rfl, rfl, rfl, rfl, rfl⟩
  | saved => exact same ⟨rfl, rfl, rfl, rfl, rfl, rfl, rfl⟩
  | linkSet t low high =>
    exact ⟨⟨⟨low, high, min_le_right ..⟩, h.totals, h.inbound, h.replies, h.reserved,
      h.reception⟩, rfl, rfl⟩
  | linkCleared =>
    obtain ⟨low, high, -⟩ := h.threshold
    exact ⟨⟨⟨low, high, Nat.zero_le _⟩, ⟨Nat.zero_le _, Nat.zero_le _, Nat.zero_le _, Nat.zero_le _⟩, h.inbound, h.replies, h.reserved,
      h.reception⟩, rfl, rfl⟩

/-- A reply joins a queue with room, while nothing is in hand. -/
theorem LinkLaw.post (h : LinkLaw u) (room : u.replies.length ≤ 15) (idle : u.inHand = .nothing)
    (kind unit : Byte) (code : ReplyCode) (data : List Byte) :
    LinkLaw (u.post kind unit code data) where
  threshold := h.threshold
  totals := h.totals
  inbound := h.inbound
  replies := by
    rw [State.post, List.length_append, List.length_singleton]
    omega
  reserved := fun busy => absurd idle busy
  reception := h.reception

/-- A frame has left the inbound queue. -/
theorem LinkLaw.pop (h : LinkLaw s) {f : Frame} {rest : List Frame}
    (head : s.inbound = f :: rest) : LinkLaw { s with inbound := rest } where
  threshold := h.threshold
  totals := h.totals
  inbound := by
    have low := h.inbound
    rw [head, List.length_cons] at low
    exact (Nat.le_succ _).trans low
  replies := h.replies
  reserved := h.reserved
  reception := h.reception

/-- A frame is in hand: the reply queue keeps a place for its reply. -/
theorem LinkLaw.hold (h : LinkLaw u) (room : u.replies.length ≤ 15) (hand : InHand) :
    LinkLaw { u with inHand := hand } :=
  ⟨h.threshold, h.totals, h.inbound, h.replies, fun _ => room, h.reception⟩

/-! ### Counters -/

theorem riseTotal_le (n : Nat) : riseTotal n ≤ 65535 := min_le_left ..

theorem LinkLaw.linkIncrement (h : LinkLaw s) : LinkLaw s.linkIncrement := by
  obtain ⟨low, high, counter⟩ := h.threshold
  unfold State.linkIncrement
  split_ifs with below quiet
  · exact ⟨⟨low, high, below⟩, h.totals, h.inbound, h.replies, h.reserved, h.reception⟩
  · exact h
  · exact h.of_same ⟨rfl, rfl, rfl, rfl, rfl, rfl, rfl⟩

/-- A frame in reception is closed. -/
theorem LinkLaw.closed (h : LinkLaw s) (mode : ReceiverMode) :
    LinkLaw { s with reception := none, receiver := mode } :=
  ⟨h.threshold, h.totals, h.inbound, h.replies, h.reserved, fun _ => nofun⟩

theorem LinkLaw.badFrame (h : LinkLaw s) : LinkLaw s.badFrame := by
  obtain ⟨-, noisy, overrun, breaks⟩ := h.totals
  exact LinkLaw.linkIncrement ⟨h.threshold, ⟨riseTotal_le _, noisy, overrun, breaks⟩, h.inbound,
    h.replies, h.reserved, h.reception⟩

theorem LinkLaw.goodFrame (h : LinkLaw s) (f : Frame) (noisy : Bool) :
    LinkLaw (s.goodFrame f noisy) := by
  obtain ⟨low, high, counter⟩ := h.threshold
  obtain ⟨bad, some, overrun, breaks⟩ := h.totals
  unfold State.goodFrame
  have joined (room : s.inbound.length < Config.inboundCapacity) :
      (s.inbound ++ [f]).length ≤ 8 := by
    rw [List.length_append, List.length_singleton]
    exact room
  split_ifs with room loud
  · exact ⟨⟨low, high, (Nat.sub_le ..).trans counter⟩, ⟨bad, riseTotal_le _, overrun, breaks⟩,
      joined room, h.replies, h.reserved, h.reception⟩
  · exact ⟨⟨low, high, (Nat.sub_le ..).trans counter⟩, h.totals,
      joined room, h.replies, h.reserved, h.reception⟩
  · exact ⟨h.threshold, ⟨bad, some, riseTotal_le _, breaks⟩, h.inbound, h.replies, h.reserved,
      h.reception⟩

theorem receiveByte_length {o : Option Reception} (b : Byte) (framing noisy : Bool)
    (low : ∀ r ∈ o, r.bytes.length ≤ 4103) :
    (receiveByte o b framing noisy).bytes.length ≤ 4103 := by
  have longest : maxFrameBytes = 4102 := rfl
  cases o with
  | none => simp [receiveByte]
  | some r =>
    simp only [receiveByte]
    split_ifs with room
    · rw [List.length_append, List.length_singleton]
      omega
    · exact low r rfl

/-! ### Every event -/

theorem loadRead_sameLink (load : StartupLoad) (passes : Bool) :
    SameLink s (s.loadRead load passes) := by
  have next (v : State) (k : Fin 8) (h : SameLink s v) : SameLink s (v.loadNext k) := by
    unfold State.loadNext
    split <;> exact ⟨h.threshold, h.errorCounter, h.totals, h.inbound, h.replies, h.inHand,
      h.reception⟩
  unfold State.loadRead
  split
  · exact next _ _ ⟨rfl, rfl, rfl, rfl, rfl, rfl, rfl⟩
  · exact next _ _ ⟨rfl, rfl, rfl, rfl, rfl, rfl, rfl⟩
  · split
    · exact ⟨rfl, rfl, rfl, rfl, rfl, rfl, rfl⟩
    · exact next _ _ ⟨rfl, rfl, rfl, rfl, rfl, rfl, rfl⟩

theorem LinkLaw.recallRead (h : LinkLaw s) {k : Fin 8} {attempts : Nat} (passes : Bool)
    (busy : s.inHand ≠ .nothing) : LinkLaw (s.recallRead k attempts passes) := by
  have room := h.reserved busy
  unfold State.recallRead
  split
  · exact (h.hold room .nothing).post room rfl ..
  · next p reads =>
    have law : LinkLaw (s.setContent k (.ready p)) :=
      h.of_same ⟨rfl, rfl, rfl, rfl, rfl, rfl, rfl⟩
    exact (law.hold room .nothing).post room rfl ..
  · split
    · exact h.hold room _
    · exact (h.hold room .nothing).post room rfl ..

theorem LinkLaw.writeDone (h : LinkLaw s) (w : PixelWrite) (busy : s.inHand ≠ .nothing)
    (data : List Byte) :
    LinkLaw ((State.writeDone s w).post kindPixels w.unit .ok data) := by
  have room := h.reserved busy
  have held := h.hold room .nothing
  unfold State.writeDone
  split
  · next b band =>
    have stored : SameLink { s with inHand := .nothing }
        { s.storeWritten w.slot (b.withPixels w.row w.pixels) with inHand := .nothing } := by
      unfold State.storeWritten
      split <;> exact ⟨rfl, rfl, rfl, rfl, rfl, rfl, rfl⟩
    exact (held.of_same stored).post (stored.replies ▸ room) rfl ..
  · exact held.post room rfl ..

theorem room_of_ready (ready : s.decoderReady = true) :
    s.inHand = .nothing ∧ s.replies.length ≤ 15 := by
  obtain ⟨-, -, idle, room⟩ := (decoderReady_iff s).mp ready
  exact ⟨idle, Nat.le_of_lt_succ room⟩

theorem Event.linkLaw (h : LinkLaw s) (event : Event s u) : LinkLaw u := by
  cases event with
  | unchanged => exact h
  | answered ready head answers =>
    obtain ⟨v, code, data, effect, rfl⟩ := answers
    obtain ⟨idle, room⟩ := room_of_ready ready
    obtain ⟨law, replies, inHand⟩ := effect.linkLaw (h.pop head)
    exact law.post (replies ▸ room) (inHand.trans idle) ..
  | resetAsked ready head => exact (h.pop head).hold (room_of_ready ready).2 _
  | recallTaken k ready head => exact (h.pop head).hold (room_of_ready ready).2 _
  | @writeBegun f rest q k b ready head slot data =>
    have law : LinkLaw { State.setSlot { s with inbound := rest } k (some b) with
        jobs := (State.beginWrite { s with inbound := rest } f q k b).jobs } :=
      (h.pop head).of_same ⟨rfl, rfl, rfl, rfl, rfl, rfl, rfl⟩
    exact law.hold (room_of_ready ready).2 _
  | writeDone w data writing => exact h.writeDone w (by simp [writing]) data
  | loaded load passes loading => exact h.of_same (loadRead_sameLink load passes)
  | recalled k attempts passes idle recalling => exact h.recallRead passes (by simp [recalling])
  | saveEnded w passes r saving => exact h.of_same (by constructor <;> simp)
  | reset => exact .of_reset ⟨rfl, rfl, rfl, rfl, rfl, rfl, rfl⟩
  | received b framing noisy mode =>
    refine ⟨h.threshold, h.totals, h.inbound, h.replies, h.reserved, ?_⟩
    rintro _ ⟨⟩
    exact receiveByte_length b framing noisy h.reception
  | broken =>
    obtain ⟨bad, noisy, overrun, -⟩ := h.totals
    exact ⟨h.threshold, ⟨bad, noisy, overrun, riseTotal_le _⟩, h.inbound, h.replies, h.reserved,
      fun _ => nofun⟩
  | atMark => exact h.of_same ⟨rfl, rfl, rfl, rfl, rfl, rfl, rfl⟩
  | goodFrame f noisy => exact (h.closed .waiting).goodFrame f noisy
  | badFrame => exact (h.closed .waiting).badFrame
  | replySent =>
    have shorter : s.replies.tail.length ≤ s.replies.length := by simp
    exact ⟨h.threshold, h.totals, h.inbound, shorter.trans h.replies,
      fun busy => shorter.trans (h.reserved busy), h.reception⟩
  | noticeSent => exact h.of_same ⟨rfl, rfl, rfl, rfl, rfl, rfl, rfl⟩
  | segmentSent n => exact h.of_same ⟨rfl, rfl, rfl, rfl, rfl, rfl, rfl⟩
  | timed => exact h.of_same ⟨rfl, rfl, rfl, rfl, rfl, rfl, rfl⟩
  | granted => exact h.of_same ⟨rfl, rfl, rfl, rfl, rfl, rfl, rfl⟩
  | wentOn => exact h.of_same ⟨rfl, rfl, rfl, rfl, rfl, rfl, rfl⟩
  | halted => exact h.of_same ⟨rfl, rfl, rfl, rfl, rfl, rfl, rfl⟩
  | climbed => exact h.of_same ⟨rfl, rfl, rfl, rfl, rfl, rfl, rfl⟩
  | committed => exact h.of_same ⟨rfl, rfl, rfl, rfl, rfl, rfl, rfl⟩

theorem StepCase.linkLaw (h : LinkLaw s) (stepped : StepCase s t) : LinkLaw t := by
  cases stepped with
  | idle same => exact same ▸ h
  | boot cause straps booted =>
    subst booted
    exact .of_reset ⟨rfl, rfl, rfl, rfl, rfl, rfl, rfl⟩
  | powerLost lost =>
    subst lost
    exact h.of_same (by constructor <;> simp)
  | ticked tick =>
    subst tick
    have law : LinkLaw (s.mapJobs fun j job => job.baseTick (s.passInFlight j)) :=
      h.of_same ⟨rfl, rfl, rfl, rfl, rfl, rfl, rfl⟩
    exact law.of_same (settle_sameLink _)
  | event c u powered due settled =>
    subst settled
    exact ((event_cases powered due).linkLaw h).of_same (settle_sameLink u)

end

/-- Settles O50: every event keeps the link's ranges. -/
theorem linkCountsKept : Obligations.LinkCountsKept := by
  intro s t inv stepped
  rw [linkInv_iff] at inv ⊢
  obtain ⟨rest, stepped⟩ := step_cases stepped
  have law : LinkLaw { s with pending := rest } := inv.of_same ⟨rfl, rfl, rfl, rfl, rfl, rfl, rfl⟩
  exact stepped.linkLaw law

end Sys2Proof.Laws
end

/-! ## The bit stream of a pass (O47) -/

section
namespace Sys2Proof.Laws
open Sys2Proof.Machine

/-- The law of a stream in a payload area of `budget` bytes (R29, R31, R32). -/
structure StreamLaw (budget : Nat) (st : Stream) : Prop where
  current : st.currentByte.length = st.bitCount % 8
  stored : st.stored = min (st.bitCount / 8) budget
  within : st.stored ≤ st.area.length

section
variable {budget position : Nat} {st : Stream} {bits : List Bool} {b : Byte}

theorem writeArea_length (area : List Byte) (position : Nat) (b : Byte) :
    (writeArea area position b).length =
      if position < area.length then area.length else area.length + 1 := by
  unfold writeArea
  split <;> simp

theorem getElem?_writeArea {area : List Byte} (position i : Nat) (b : Byte)
    (place : position ≤ area.length) :
    (writeArea area position b)[i]? = if i = position then some b else area[i]? := by
  unfold writeArea
  split_ifs with inside here here
  · rw [here, List.getElem?_set_self inside]
  · rw [List.getElem?_set_ne (Ne.symm here)]
  · obtain rfl : position = area.length := by omega
    rw [here]
    simp
  · obtain rfl : position = area.length := by omega
    rw [List.getElem?_append]
    split_ifs with low
    · rfl
    · rw [List.getElem?_eq_none (not_lt.mp low), List.getElem?_eq_none]
      rw [List.length_singleton]
      omega

/-! ### The area stays within B (R32) -/

theorem store_area_le (h : st.area.length ≤ budget) :
    (st.store budget position b).area.length ≤ budget := by
  unfold Stream.store
  split_ifs with room
  · rw [writeArea_length]
    split_ifs <;> omega
  · exact h

theorem pushBit_area_le (h : st.area.length ≤ budget) (bit : Bool) :
    (st.pushBit budget bit).area.length ≤ budget := by
  simp only [Stream.pushBit]
  split_ifs
  · exact store_area_le h
  · exact h

theorem push_area_le (h : st.area.length ≤ budget) : (st.push budget bits).area.length ≤ budget := by
  unfold Stream.push
  induction bits generalizing st with
  | nil => exact h
  | cons bit bits ih => exact ih (pushBit_area_le h bit)

theorem finish_area_le (h : st.area.length ≤ budget) : (st.finish budget).area.length ≤ budget := by
  unfold Stream.finish
  split_ifs
  · exact h
  · exact store_area_le h

/-! ### The law of a stream -/

theorem store_bitCount : (st.store budget position b).bitCount = st.bitCount := by
  unfold Stream.store
  split <;> rfl

theorem store_currentByte : (st.store budget position b).currentByte = [] := by
  unfold Stream.store
  split <;> rfl

/-- A byte completed at the position the law gives it. -/
theorem store_counts {count : Nat} (stored : st.stored = min position budget)
    (within : st.stored ≤ st.area.length) (count_ : count = position + 1) :
    (st.store budget position b).stored = min count budget ∧
      (st.store budget position b).stored ≤ (st.store budget position b).area.length := by
  unfold Stream.store
  split_ifs with room
  · simp only [writeArea_length]
    split_ifs <;> omega
  · simp only
    omega

theorem StreamLaw.pushBit (h : StreamLaw budget st) (bit : Bool) :
    StreamLaw budget (st.pushBit budget bit) := by
  obtain ⟨current, stored, within⟩ := h
  simp only [Stream.pushBit, List.length_append, List.length_singleton]
  split_ifs with full
  · have count : (st.bitCount + 1) / 8 = (st.bitCount + 1 - 1) / 8 + 1 := by omega
    obtain ⟨stored', within'⟩ := store_counts (budget := budget)
      (b := packByte (st.currentByte ++ [bit])) (position := (st.bitCount + 1 - 1) / 8)
      (st := { st with bitCount := st.bitCount + 1, currentByte := st.currentByte ++ [bit] })
      stored within count
    refine ⟨?_, ?_, within'⟩
    · rw [store_currentByte, store_bitCount, List.length_nil]
      simp only
      omega
    · rw [store_bitCount]
      exact stored'
  · refine ⟨?_, ?_, within⟩
    · simp only [List.length_append, List.length_singleton]
      omega
    · simp only
      rw [stored]
      congr 1
      omega

theorem StreamLaw.push (h : StreamLaw budget st) : StreamLaw budget (st.push budget bits) := by
  unfold Stream.push
  induction bits generalizing st with
  | nil => exact h
  | cons bit bits ih => exact ih (h.pushBit bit)

/-- What a finished stream has stored. -/
theorem StreamLaw.finish (h : StreamLaw budget st) :
    (st.finish budget).stored = min ((st.bitCount + 7) / 8) budget ∧
      (st.finish budget).stored ≤ (st.finish budget).area.length := by
  obtain ⟨current, stored, within⟩ := h
  unfold Stream.finish
  split_ifs with none_
  · rw [none_, List.length_nil] at current
    refine ⟨?_, within⟩
    rw [stored]
    congr 1
    omega
  · have some_ : 0 < st.currentByte.length := List.length_pos_iff.mpr none_
    refine store_counts (position := (st.bitCount - 1) / 8) ?_ within (by omega)
    rw [stored]
    congr 1
    omega

/-! ### The bytes stored (R31, R33) -/

/-- Byte `i` of a bit stream. -/
def packedByte (bits : List Bool) (i : Nat) : Byte :=
  byte (natOfBits ((List.range 8).map fun n => bits.getD (8 * i + 7 - n) false))

theorem packed_getElem? (bits : List Bool) (count i : Nat) :
    (packed bits count)[i]? = if i < count then some (packedByte bits i) else none := by
  unfold packed packedByte
  rw [List.getElem?_map]
  split_ifs with inside
  · rw [List.getElem?_range inside]
    rfl
  · rw [List.getElem?_eq_none (by simpa using inside)]
    rfl

/-- A byte packed from the bits from place 8i on, those past the end as zeros. -/
theorem packByte_drop (bits : List Bool) (i : Nat) :
    packByte (bits.drop (8 * i)) = packedByte bits i := by
  unfold packByte packedByte
  congr 1
  simp only [List.range, List.range.loop, List.foldl_cons, List.foldl_nil, List.map_cons,
    List.map_nil, natOfBits, List.getD_eq_getElem?_getD, List.getElem?_drop, Nat.add_sub_cancel,
    Nat.reduceSubDiff, Nat.add_zero, Nat.sub_zero]
  ring

theorem packedByte_append {bits : List Bool} (more : List Bool) {i : Nat}
    (whole : i < bits.length / 8) : packedByte (bits ++ more) i = packedByte bits i := by
  unfold packedByte
  congr 2
  refine List.map_congr_left fun n hn => ?_
  rw [List.getD_append]
  omega

/-- The stream has been written with `bits`, from an empty one. -/
structure Written (budget : Nat) (bits : List Bool) (st : Stream) : Prop where
  law : StreamLaw budget st
  count : st.bitCount = bits.length
  current : st.currentByte = bits.drop (8 * (bits.length / 8))
  bytes : ∀ i < st.stored, st.area[i]? = some (packedByte bits i)

/-- The bytes after one more is completed in its place. -/
theorem store_bytes {byteAt : Nat → Byte} (stored : st.stored = min position budget)
    (within : st.stored ≤ st.area.length) (bytes : ∀ i < st.stored, st.area[i]? = some (byteAt i)) :
    ∀ i < (st.store budget position (byteAt position)).stored,
      (st.store budget position (byteAt position)).area[i]? = some (byteAt i) := by
  intro i hi
  unfold Stream.store at hi ⊢
  split_ifs at hi ⊢ with room
  · simp only at hi ⊢
    rw [getElem?_writeArea _ _ _ (by omega)]
    split_ifs with here
    · rw [here]
    · exact bytes i (by omega)
  · exact bytes i hi

theorem Written.start (area : List Byte) :
    Written budget [] { bitCount := 0, currentByte := [], stored := 0, area := area } :=
  ⟨⟨rfl, by simp, Nat.zero_le _⟩, rfl, rfl, by simp⟩

theorem Written.pushBit (h : Written budget bits st) (bit : Bool) :
    Written budget (bits ++ [bit]) (st.pushBit budget bit) := by
  obtain ⟨law, count, current, bytes⟩ := h
  have bytes' : ∀ i < st.stored, st.area[i]? = some (packedByte (bits ++ [bit]) i) := by
    intro i hi
    rw [bytes i hi, packedByte_append]
    have stored := law.stored
    omega
  have length : (st.currentByte ++ [bit]).length = bits.length % 8 + 1 := by
    rw [List.length_append, law.current, count, List.length_singleton]
  have law' := law.pushBit bit
  have drop : st.currentByte ++ [bit] = (bits ++ [bit]).drop (8 * (bits.length / 8)) := by
    rw [current, List.drop_append_of_le_length (by omega)]
  simp only [Stream.pushBit] at law' ⊢
  split_ifs at law' ⊢ with full
  · have position : (st.bitCount + 1 - 1) / 8 = bits.length / 8 := by omega
    have whole : 8 * ((bits ++ [bit]).length / 8) = (bits ++ [bit]).length := by
      rw [List.length_append, List.length_singleton]
      omega
    refine ⟨law', ?_, ?_, ?_⟩
    · rw [store_bitCount, List.length_append, List.length_singleton, count]
    · rw [store_currentByte, whole, List.drop_length]
    · rw [drop, position, packByte_drop]
      refine store_bytes (position := bits.length / 8) ?_ law.within bytes'
      rw [law.stored, count]
  · refine ⟨law', ?_, ?_, bytes'⟩
    · rw [List.length_append, List.length_singleton, count]
    · simp only
      rw [drop, List.length_append, List.length_singleton]
      congr 2
      omega

theorem Written.push (more : List Bool) : ∀ {bits : List Bool} {st : Stream},
    Written budget bits st → Written budget (bits ++ more) (st.push budget more) := by
  unfold Stream.push
  induction more with
  | nil => exact fun h => by simpa using h
  | cons bit more ih =>
    intro bits st h
    rw [List.append_cons]
    exact ih (h.pushBit bit)

/-- The bytes of a finished stream (R33). -/
theorem Written.finish_bytes (h : Written budget bits st) :
    ∀ i < (st.finish budget).stored, (st.finish budget).area[i]? = some (packedByte bits i) := by
  obtain ⟨⟨length, stored, within⟩, count, current, bytes⟩ := h
  unfold Stream.finish
  split_ifs with empty
  · exact bytes
  · have some_ : 0 < st.currentByte.length := List.length_pos_iff.mpr empty
    have position : (st.bitCount - 1) / 8 = bits.length / 8 := by omega
    rw [current, position, packByte_drop]
    refine store_bytes ?_ within bytes
    rw [stored, count]

theorem Written.finish_take (h : Written budget bits st) :
    (st.finish budget).area.take (st.finish budget).stored =
      packed bits (min ((bits.length + 7) / 8) budget) := by
  obtain ⟨stored, within⟩ := h.law.finish
  rw [h.count] at stored
  refine List.ext_getElem? fun i => ?_
  rw [packed_getElem?, List.getElem?_take, stored]
  split_ifs with inside
  · exact h.finish_bytes i (stored ▸ inside)
  · rfl

end

/-- Settles O47: what is written stays packed, bit by bit. -/
theorem streamPacking : Obligations.StreamPacking := by
  intro budget old bits low
  have written : Written budget bits (Stream.push budget _ bits) :=
    (Written.start old).push bits
  obtain ⟨stored, -⟩ := written.law.finish
  exact ⟨written.count, written.count ▸ written.law.stored, written.current,
    written.count ▸ stored, written.finish_take, finish_area_le (push_area_le low)⟩

end Sys2Proof.Laws
end

/-! ## Coding and its bit stream -/

section
namespace Sys2Proof.Laws
open Sys2Proof.Machine

section
variable {budget : Nat} {s : State} {p : PassState} {q : Profile} {b : BandSlot} {r : Reservation}
  {c d : Coding}

theorem push_push (st : Stream) (bits more : List Bool) :
    (st.push budget bits).push budget more = st.push budget (bits ++ more) := by
  unfold Stream.push
  rw [List.foldl_append]

theorem codeTile_stream (q : Profile) (budget : Nat) (b : BandSlot) (top : Nat) (c : Coding) :
    ∃ bits, (c.codeTile q budget b top).stream = c.stream.push budget bits := by
  refine ⟨tileBits c.pass.predictors
    (tileLevels q c.pass.pass c.pass.runningIndex (tilePixels b c.pass.column top)), ?_⟩
  simp only [Coding.codeTile, Coding.withStream, Coding.stream]

/-- A coded column has pushed its bits to the stream of its pass and reservation (R29). -/
theorem columnCoded_stream (coding : s.columnCoded p q b r = c) :
    ∃ bits, c.stream =
      Stream.push (s.job p.job).budget (Coding.stream { pass := p, area := r.area }) bits := by
  obtain ⟨top, first⟩ := codeTile_stream q (s.job p.job).budget b 0 { pass := p, area := r.area }
  obtain ⟨bottom, second⟩ := codeTile_stream q (s.job p.job).budget b 8
    (Coding.codeTile q (s.job p.job).budget b 0 { pass := p, area := r.area })
  refine ⟨top ++ bottom, ?_⟩
  rw [← push_push, ← first, ← second, ← coding]
  simp only [Coding.stream, columnCoded_pass, columnCoded_area, PassState.steer, Coding.codeColumn]

theorem finish_stream (ended : c.finish budget = d) : d.stream = c.stream.finish budget :=
  ended ▸ rfl

theorem finish_marks (ended : c.finish budget = d) :
    d.pass.overMark = c.pass.overMark ∧ d.pass.column = c.pass.column := by
  rw [← ended]
  exact ⟨rfl, rfl⟩

/-- The area of a coded column stays within B. -/
theorem coded_area_le (coding : s.columnCoded p q b r = c)
    (low : r.area.length ≤ (s.job p.job).budget) : c.area.length ≤ (s.job p.job).budget := by
  obtain ⟨bits, stream⟩ := columnCoded_stream coding
  have pushed := push_area_le (bits := bits) (st := Coding.stream { pass := p, area := r.area }) low
  rw [← stream] at pushed
  exact pushed

theorem finished_area_le (ended : c.finish budget = d) (low : c.area.length ≤ budget) :
    d.area.length ≤ budget := by
  have finished := finish_area_le (st := c.stream) low
  rw [← finish_stream ended] at finished
  exact finished

theorem coded_streamLaw (coding : s.columnCoded p q b r = c)
    (law : StreamLaw (s.job p.job).budget (Coding.stream { pass := p, area := r.area })) :
    StreamLaw (s.job p.job).budget c.stream := by
  obtain ⟨bits, stream⟩ := columnCoded_stream coding
  rw [stream]
  exact law.push

theorem finished_stored (ended : c.finish budget = d) (law : StreamLaw budget c.stream) :
    d.pass.stored ≤ budget ∧ d.pass.stored ≤ d.area.length := by
  obtain ⟨stored, within⟩ := law.finish
  rw [← finish_stream ended] at stored within
  exact ⟨(stored : d.pass.stored = _).trans_le (min_le_right ..), within⟩

end

end Sys2Proof.Laws
end

/-! ## What a pass has stored (O54) -/

section
namespace Sys2Proof.Laws
open Sys2Proof.Machine

/-- The law of a job's coding band (R29, R31, R32, R49). -/
structure PassLaw (v : Job) (p : PassState) : Prop where
  overMark : p.overMark = false
  column : p.column < v.columns
  current : p.currentByte.length = p.bitCount % 8
  stored : p.stored = min (p.bitCount / 8) v.budget
  within : ∀ r ∈ v.reservation, p.stored ≤ r.area.length

/-- The law of a withheld band (R33, R119). -/
structure WithheldLaw (v : Job) (w : Withheld) : Prop where
  stored : w.stored ≤ v.budget
  complete : w.fits = true → w.complete = true
  within : ∀ r ∈ v.reservation, w.stored ≤ r.area.length

/-- What a job's pass or withheld band has stored. -/
structure StoredLaw (o : Option (Fin 2 × PassState)) (v : Job) : Prop where
  coding : ∀ c ∈ o, PassLaw v c.2
  withheld : ∀ w ∈ v.withheld, WithheldLaw v w

section
variable {s : State} {v v' : Job} {j : Fin 8}

theorem streamInv_iff (apart : LanesApart s) :
    StreamInv s ↔ ∀ j, StoredLaw (s.coding j) (s.job j) := by
  constructor
  · rintro ⟨passes, withheld⟩ j
    refine ⟨fun ⟨l, p⟩ coding => ?_, fun w hw => ?_⟩
    · obtain ⟨lane, rfl⟩ := coding_eq_some coding
      obtain ⟨overMark, column, current, stored, within⟩ := passes l p lane
      exact ⟨overMark, column, current, stored, within⟩
    · obtain ⟨stored, complete, within⟩ := withheld j w hw
      exact ⟨stored, complete, within⟩
  · intro h
    refine ⟨fun l p lane => ?_, fun j w hw => ?_⟩
    · have law := (h p.job).coding _ (apart.coding_eq lane)
      exact ⟨law.overMark, law.column, law.current, law.stored, law.within⟩
    · have law := (h j).withheld w hw
      exact ⟨law.stored, law.complete, law.within⟩

/-- The budget, columns, reservation and withheld band are as they were. -/
theorem StoredLaw.of_same {o : Option (Fin 2 × PassState)} (h : StoredLaw o v)
    (columns : v'.columns = v.columns) (budget : v'.budget = v.budget)
    (reservation : v'.reservation = v.reservation) (withheld : v'.withheld = v.withheld) :
    StoredLaw o v' where
  coding := fun c hc => by
    have law := h.coding c hc
    exact ⟨law.overMark, columns ▸ law.column, law.current, budget ▸ law.stored,
      reservation ▸ law.within⟩
  withheld := fun w hw => by
    have law := h.withheld w (withheld ▸ hw)
    exact ⟨budget ▸ law.stored, law.complete, reservation ▸ law.within⟩

/-- No pass in flight and nothing withheld. -/
theorem StoredLaw.of_idle (withheld : v.withheld = none) : StoredLaw none v :=
  ⟨fun _ => nofun, by simp [withheld]⟩

/-- A pass begins (R22, R29). -/
theorem beginPass_law (slot : Fin 24) (band : Nat) (pass : Pass) (index : Nat)
    (columns : 0 < v.columns) : PassLaw v (beginPass j slot band pass index) :=
  ⟨rfl, columns, rfl, by simp [beginPass], fun _ _ => Nat.zero_le _⟩

theorem PassLaw.streamLaw {p : PassState} {r : Reservation} (h : PassLaw v p)
    (reserved : v.reservation = some r) :
    StreamLaw v.budget (Coding.stream { pass := p, area := r.area }) :=
  ⟨h.current, h.stored, h.within r reserved⟩

theorem coding_of_coded (apart : LanesApart s) {l : Fin 2} {p : PassState} {b : BandSlot}
    {q : Profile} {r : Reservation} (coded : Coded s l p b q r) :
    s.coding p.job = some (l, p) := apart.coding_eq coded.lane

theorem WorkCase.storedLaw {o : Option (Fin 2 × PassState)} (became : WorkCase s j o v)
    (apart : LanesApart s) (flight : FlightLaw (s.passInFlight j) (s.job j))
    (running : ∀ others, s.candidates = j :: others → (s.job j).state = .running)
    (live : (s.job j).state ≠ .free → 1 ≤ (s.job j).columns)
    (h : StoredLaw (s.coding j) (s.job j)) : StoredLaw o v := by
  have idle (state : (s.job j).state.coding = false) : s.coding j = none :=
    Option.isNone_iff_eq_none.mp (by
      simpa [State.passInFlight] using flight.not_flying state)
  have bare {l : Fin 2} {p : PassState} {b : BandSlot} {q : Profile} {r : Reservation}
      (coded : Coded s l p b q r) (job : p.job = j) : (s.job j).withheld = none :=
    (flight.coding (passInFlight_iff.mpr ⟨l, p, coded.lane, job⟩)).2
  cases became with
  | step became =>
    have same := became.sameJob
    exact h.of_same same.columns same.budget same.reservation same.withheld
  | opened k p r free =>
    rw [idle (by simp [free, JobState.coding])]
    exact .of_idle (openedJob_withheld k p r)
  | freed => exact .of_idle rfl
  | requeued w next index budget halted withheld =>
    rw [idle (by simp [halted, JobState.coding])]
    exact .of_idle (by simp [Job.requeue])
  | resolved w halted withheld =>
    rw [idle (by simp [halted, JobState.coding])]
    exact .of_idle (by simp)
  | loads => exact h.of_same rfl rfl rfl rfl
  | filled => exact h.of_same rfl rfl rfl rfl
  | granted l others k rest lane head ready room =>
    have runs := running others head
    refine ⟨?_, ?_⟩
    · rintro _ ⟨⟩
      exact beginPass_law _ _ _ _ (live (by simp [runs]))
    · have none_ : ((s.job j).granted rest).withheld = none := flight.bare (by simp [runs])
      simp [none_]
  | @wentOn l p b q r c coded job coding fits more =>
    subst job
    have law := h.coding _ (coding_of_coded apart coded)
    have pushed := coded_streamLaw coding (law.streamLaw coded.reserved)
    have column : c.pass.column = p.column := coding ▸ (columnCoded_sameRun s p q b r).column
    refine ⟨?_, ?_⟩
    · rintro _ ⟨⟩
      refine ⟨fits, ?_, pushed.current, pushed.stored, ?_⟩
      · simp only [column]
        exact more
      · rw [coded.reserved]
        rintro _ ⟨⟩
        exact pushed.within
    · simp [bare coded rfl]
  | @halted l p b q r c d coded job coding ends ended =>
    subst job
    have law := h.coding _ (coding_of_coded apart coded)
    have pushed := coded_streamLaw coding (law.streamLaw coded.reserved)
    obtain ⟨stored, within⟩ := finished_stored ended pushed
    obtain ⟨overMark, column⟩ := finish_marks ended
    have run := coding ▸ columnCoded_sameRun s p q b r
    refine ⟨fun _ => nofun, ?_⟩
    rw [haltedJob_withheld]
    rintro _ ⟨⟩
    refine ⟨by simpa [withheldOf] using stored, fun fits => ?_, ?_⟩
    · have early : c.pass.overMark = false := by simpa [withheldOf, overMark] using fits
      have last : (s.job p.job).columns ≤ c.pass.column + 1 := by
        rw [← run.job]
        exact ends.resolve_left (by simp [early])
      have inside : p.column < (s.job p.job).columns := law.column
      rw [run.column] at last
      simp only [withheldOf, column, run.column, passResults_columns, decide_eq_true_iff]
      omega
    · rw [haltedJob_reservation, passResults_reservation, coded.reserved]
      rintro _ ⟨⟩
      exact within
  | @climbed l p b q r c d coded job coding ended =>
    subst job
    have law := h.coding _ (coding_of_coded apart coded)
    refine ⟨?_, ?_⟩
    · rintro _ ⟨⟩
      exact beginPass_law _ _ _ _ (by rw [passResults_columns]; exact Nat.zero_lt_of_lt law.column)
    · simp [bare coded rfl]
  | committed coded job coding ended => exact .of_idle (by simpa using bare coded job)

end

/-- Settles O54: a pass's bits extend a lawful stream, and a halt or commit takes what it stored. -/
theorem bitStreamsKept : Obligations.BitStreamsKept := by
  intro s t candidates lanes output index inv stepped
  have flight := (laneInv_iff s).mp lanes
  have apart' := ((laneInv_iff t).mp (laneInv_step candidates lanes stepped)).1
  rw [streamInv_iff flight.1] at inv
  rw [streamInv_iff apart']
  intro j
  obtain ⟨pending, inbound, v, work, same⟩ := step_work candidates lanes stepped j
  have kept : StoredLaw (t.coding j) v :=
    work.storedLaw flight.1 (flight.2 j) (fun others => head_running candidates)
      (fun live => (((indexInv_iff s).mp index).1 j |>.live live).2.1.1) (inv j)
  obtain same | noticed := same
  · exact same ▸ kept
  · exact noticed ▸ kept.of_same rfl rfl rfl rfl

end Sys2Proof.Laws
end

/-! ## The output queue (O52) -/

section
namespace Sys2Proof.Laws
open Sys2Proof.Machine

/-- The law of a job's reservation (R110). -/
structure ReserveLaw (flying : Bool) (v : Job) : Prop where
  holds : v.reservation.isSome = true ↔ flying = true ∨ v.withheld.isSome = true
  size : ∀ r ∈ v.reservation, r.size = v.budget + 16 ∧ r.area.length ≤ v.budget

theorem outputInv_iff (s : State) :
    OutputInv s ↔ s.unsentBytes + s.reservedBytes ≤ 1048576 ∧
      ∀ j, ReserveLaw (s.passInFlight j) (s.job j) :=
  and_congr_right fun _ => forall_congr' fun _ =>
    ⟨fun ⟨holds, size⟩ => ⟨holds, size⟩, fun h => ⟨h.holds, h.size⟩⟩

section
variable {s u t : State} {v v' : Job} {i j : Fin 8} {flying : Bool}

theorem ReserveLaw.of_same (h : ReserveLaw flying v) (reservation : v'.reservation = v.reservation)
    (withheld : v'.withheld = v.withheld) (budget : v'.budget = v.budget) :
    ReserveLaw flying v' :=
  ⟨by rw [reservation, withheld]; exact h.holds, by rw [reservation, budget]; exact h.size⟩

theorem ReserveLaw.of_idle (reservation : v.reservation = none) (withheld : v.withheld = none) :
    ReserveLaw false v :=
  ⟨by simp [reservation, withheld], by simp [reservation]⟩

/-- The reservation's area as the lane left it (R103). -/
theorem ReserveLaw.of_area {r : Reservation} {area : List Byte}
    (h : ReserveLaw flying v) (reserved : v.reservation = some r)
    (reservation : v'.reservation = v.reservation.map fun r => { r with area := area })
    (budget : v'.budget = v.budget) (low : area.length ≤ v.budget) {flying' : Bool}
    (held : flying' = true ∨ v'.withheld.isSome = true) : ReserveLaw flying' v' := by
  rw [reserved, Option.map_some] at reservation
  refine ⟨by simp [reservation, held], ?_⟩
  rw [reservation, budget]
  rintro _ ⟨⟩
  exact ⟨(h.size r reserved).1, low⟩

theorem openedJob_reservation (k : Fin 8) (p : Profile) (r : OpenRequest) :
    (openedJob k p r).reservation = none := by simp [openedJob, freeJob]

theorem WorkCase.reserveLaw {o : Option (Fin 2 × PassState)} (became : WorkCase s j o v)
    (flight : FlightLaw (s.passInFlight j) (s.job j))
    (h : ReserveLaw (s.passInFlight j) (s.job j)) : ReserveLaw o.isSome v := by
  have idle (state : (s.job j).state.coding = false) : (s.coding j).isSome = false :=
    flight.not_flying state
  cases became with
  | step became =>
    have same := became.sameJob
    exact h.of_same same.reservation same.withheld same.budget
  | opened k p r free =>
    rw [idle (by simp [free, JobState.coding])]
    exact .of_idle (openedJob_reservation k p r) (openedJob_withheld k p r)
  | freed => exact .of_idle rfl rfl
  | requeued w next index budget halted withheld =>
    rw [idle (by simp [halted, JobState.coding])]
    exact .of_idle (by simp [Job.requeue]) (by simp [Job.requeue])
  | resolved w halted withheld =>
    rw [idle (by simp [halted, JobState.coding])]
    exact .of_idle (by simp) (by simp)
  | loads => exact h.of_same rfl rfl rfl
  | filled => exact h.of_same rfl rfl rfl
  | granted l others k rest lane head ready room =>
    refine ⟨by simp [Job.granted], ?_⟩
    rintro _ ⟨⟩
    exact ⟨rfl, Nat.zero_le _⟩
  | @wentOn l p b q r c coded job coding fits more =>
    subst job
    have low := coded_area_le coding (h.size r coded.reserved).2
    exact h.of_area coded.reserved (by rfl) (by rfl) low (.inl rfl)
  | @halted l p b q r c d coded job coding ends ended =>
    subst job
    have low := finished_area_le ended (coded_area_le coding (h.size r coded.reserved).2)
    exact h.of_area coded.reserved (by simp) (by simp) low (.inr (by simp))
  | @climbed l p b q r c d coded job coding ended =>
    subst job
    have low := finished_area_le ended (coded_area_le coding (h.size r coded.reserved).2)
    exact h.of_area coded.reserved (by simp) (by simp) low (.inl rfl)
  | @committed l p b q r c d coded job coding ended =>
    have bare := (flight.coding (passInFlight_iff.mpr ⟨l, p, coded.lane, job⟩)).2
    exact .of_idle (by simp) (by simpa using bare)

/-! ### The bytes of the queue -/

theorem leBytes_length (width n : Nat) : (leBytes width n).length = width := by
  induction width generalizing n with
  | zero => rfl
  | succ width ih => rw [leBytes, List.length_cons, ih]

theorem recordFor_bytes_length (s : State) (j : Fin 8) (c : CommitSource) :
    (s.recordFor j c).bytes.length = 16 + c.payload.length := by
  simp only [State.recordFor, headerBytes, List.length_append, List.length_cons, List.length_nil,
    leBytes_length]

theorem recordFor_unsent (s : State) (j : Fin 8) (c : CommitSource) :
    (s.recordFor j c).unsent = 16 + c.payload.length := by
  rw [OutRecord.unsent, recordFor_bytes_length]
  rfl

theorem unsentBytes_append {records : List OutRecord} {r : OutRecord}
    (h : u.records = records ++ [r]) :
    u.unsentBytes = (records.map OutRecord.unsent).sum + r.unsent := by
  simp [State.unsentBytes, h]

theorem unsentBytes_of_records (h : u.records = s.records) : u.unsentBytes = s.unsentBytes := by
  rw [State.unsentBytes, h, State.unsentBytes]

theorem advanceRecords_unsent_le (n : Nat) (records : List OutRecord) :
    ((advanceRecords n records).map OutRecord.unsent).sum ≤
      (records.map OutRecord.unsent).sum := by
  cases records with
  | nil => exact le_rfl
  | cons r rest =>
    simp only [advanceRecords]
    split_ifs
    · simp
    · simp only [List.map_cons, List.sum_cons, OutRecord.unsent]
      omega

theorem reservedBytes_le (h : ∀ j, (u.job j).reserved ≤ (s.job j).reserved) :
    u.reservedBytes ≤ s.reservedBytes :=
  List.sum_le_sum fun j _ => h j

/-- The reserved bytes when one job's reservation has changed. -/
theorem reservedBytes_change (i : Fin 8)
    (others : ∀ j, j ≠ i → (u.job j).reserved = (s.job j).reserved) :
    u.reservedBytes + (s.job i).reserved = s.reservedBytes + (u.job i).reserved := by
  have split (w : State) : w.reservedBytes =
      ∑ j ∈ Finset.univ.erase i, (w.job j).reserved + (w.job i).reserved := by
    rw [Finset.sum_erase_add _ _ (Finset.mem_univ i)]
    exact (Fin.sum_univ_def fun j => (w.job j).reserved).symm
  rw [split u, split s, Finset.sum_congr rfl fun j hj => others j (Finset.ne_of_mem_erase hj)]
  omega

theorem reserved_eq {r : Reservation} (h : v.reservation = some r) : v.reserved = r.size := by
  rw [Job.reserved, h]

theorem reserved_of_none (h : v.reservation = none) : v.reserved = 0 := by
  rw [Job.reserved, h]

theorem reserved_area {area : List Byte}
    (h : v'.reservation = v.reservation.map fun r => { r with area := area }) :
    v'.reserved = v.reserved := by
  unfold Job.reserved
  rw [h]
  cases v.reservation <;> rfl

theorem reserved_of_eq (h : v'.reservation = v.reservation) : v'.reserved = v.reserved := by
  rw [Job.reserved, h, Job.reserved]

/-! ### Every event -/

/-- The bytes of the queue: unsent record bytes and reserved bytes (R110). -/
def State.queueBytes (s : State) : Nat := s.unsentBytes + s.reservedBytes

/-- Records as they were and no job's reservation larger. -/
theorem queueBytes_le_of_jobs (records : u.records = s.records)
    (jobs : ∀ j, (u.job j).reserved ≤ (s.job j).reserved) :
    State.queueBytes u ≤ State.queueBytes s :=
  Nat.add_le_add (unsentBytes_of_records records).le (reservedBytes_le jobs)

/-- A commit's record takes no more room than the reservation that ends (R109, R110). -/
theorem queueBytes_commit {r : OutRecord} (records : u.records = s.records ++ [r])
    (ended : (u.job i).reservation = none) (fits : r.unsent ≤ (s.job i).reserved)
    (others : ∀ j, j ≠ i → (u.job j).reserved = (s.job j).reserved) :
    State.queueBytes u ≤ State.queueBytes s := by
  have change := reservedBytes_change (u := u) i others
  have unsent : u.unsentBytes = s.unsentBytes + r.unsent := unsentBytes_append records
  rw [reserved_of_none ended] at change
  unfold State.queueBytes
  omega

theorem JobStep.reserved (became : JobStep flying v v') : v'.reserved = v.reserved :=
  reserved_of_eq became.sameJob.reservation

theorem writeDone_records (w : PixelWrite) : (State.writeDone s w).records = s.records := by
  unfold State.writeDone
  split
  · unfold State.storeWritten
    split <;> rfl
  · rfl

theorem reset_queueBytes : State.queueBytes State.reset = 0 := by
  have none_ (j : Fin 8) : (State.reset.job j).reserved = 0 := by
    rw [reset_job]
    rfl
  simp only [State.queueBytes, State.unsentBytes, State.reservedBytes, none_]
  rfl

theorem CoreCase.queueBytes_le (h : CoreCase s u) (room : State.queueBytes s ≤ 1048576)
    (law : ∀ j, ReserveLaw (s.passInFlight j) (s.job j)) : State.queueBytes u ≤ 1048576 := by
  cases h with
  | jobs slots lanes candidates records writing became =>
    exact (queueBytes_le_of_jobs records fun j => (became j).reserved.le).trans room
  | opened i k p r free ready inRange reloads taken becomes =>
    refine (queueBytes_le_of_jobs (s := s) becomes.records fun j => ?_).trans room
    rw [becomes.job, job_setJob]
    split_ifs
    · rw [reserved_of_none (openedJob_reservation k p r)]
      exact Nat.zero_le _
    · exact le_rfl
  | freed i off becomes =>
    refine (queueBytes_le_of_jobs (s := s) (becomes.records.trans (freeContext_records s i))
      fun j => ?_).trans room
    rw [becomes.job, job_freeContext]
    split_ifs
    · exact Nat.zero_le _
    · exact le_rfl
  | resolved i w c halted withheld source becomes =>
    have held : (s.job i).reservation.isSome = true := (law i).holds.mpr (.inr (by simp [withheld]))
    obtain ⟨r, reserved⟩ := Option.isSome_iff_exists.mp held
    obtain ⟨size, low⟩ := (law i).size r reserved
    refine (queueBytes_commit (s := s) (i := i) (becomes.records.trans rfl) ?_ ?_ fun j other => ?_).trans
      room
    · rw [becomes.job, job_commitWithheld, if_pos rfl]
      simp
    · rw [recordFor_unsent, reserved_eq reserved, size]
      obtain rfl | rfl := source
      · simp only [acceptSource, reserved, List.length_take]
        omega
      · simp [dropSource]
    · rw [becomes.job, job_commitWithheld, if_neg other]
  | requeued i w next index budget halted withheld indexed budgeted becomes =>
    refine (queueBytes_le_of_jobs (s := s) becomes.records fun j => ?_).trans room
    rw [becomes.job, job_setJob]
    split_ifs
    · rw [reserved_of_none (by simp [Job.requeue])]
      exact Nat.zero_le _
    · exact le_rfl
  | writeBegun f q k b off slot data becomes =>
    refine (queueBytes_le_of_jobs (s := s) becomes.records fun j => ?_).trans room
    rw [becomes.job, job_beginWrite]
    split_ifs <;> exact le_rfl
  | writeDone w writing becomes =>
    refine (queueBytes_le_of_jobs (s := s) (becomes.records.trans (writeDone_records w))
      fun j => ?_).trans room
    rw [becomes.job]
    obtain same | filled := job_writeDone s j w
    · rw [same]
    · rw [filled]
      exact le_rfl
  | sent n becomes =>
    refine (Nat.add_le_add ?_ (reservedBytes_le fun j => ?_)).trans room
    · rw [State.unsentBytes, becomes.records]
      exact advanceRecords_unsent_le n s.records
    · rw [becomes.job]
      exact le_rfl
  | granted l i others k rest lane head ready free becomes =>
    subst becomes
    have change := reservedBytes_change (u := s.grantTo l i k rest) (s := s) i fun j other => by
      rw [job_grantTo, if_neg other]
    rw [job_grantTo, if_pos rfl, reserved_eq (v := (s.job i).granted rest) rfl] at change
    simp only at change
    have unsent : (s.grantTo l i k rest).unsentBytes = s.unsentBytes := unsentBytes_of_records rfl
    have capacity : Config.outputCapacity = 1048576 := rfl
    unfold State.freeSpace at free
    unfold State.queueBytes at room ⊢
    omega
  | wentOn coded coding fits more becomes =>
    subst becomes
    refine Nat.le_trans (queueBytes_le_of_jobs (s := s) rfl fun j => ?_) room
    rw [job_nextColumn]
    split_ifs
    · exact (reserved_area (by rfl)).le
    · exact le_rfl
  | halted coded coding ends ended becomes =>
    subst becomes
    refine Nat.le_trans (queueBytes_le_of_jobs (s := s) rfl fun j => ?_) room
    rw [job_haltPass, job_passEnded]
    split_ifs
    · exact (reserved_area ((haltedJob_reservation ..).trans (passResults_reservation ..))).le
    · exact le_rfl
  | climbed coded coding ended becomes =>
    subst becomes
    refine Nat.le_trans (queueBytes_le_of_jobs (s := s) rfl fun j => ?_) room
    rw [job_climb, job_passEnded]
    split_ifs
    · exact (reserved_area (passResults_reservation ..)).le
    · exact le_rfl
  | @committed l p b q r c d coded coding ended becomes =>
    subst becomes
    have job : d.pass.job = p.job := (coded_sameRun coded coding ended).job
    obtain ⟨size, low⟩ := (law p.job).size r coded.reserved
    have area := finished_area_le ended (coded_area_le coding low)
    refine (queueBytes_commit (s := s) (i := p.job) (r := (State.passEnded s d).recordFor d.pass.job
      (passSource d)) rfl ?_ ?_ fun j other => ?_).trans room
    · rw [job_commitPass, job, if_pos rfl]
      simp
    · rw [recordFor_unsent, reserved_eq coded.reserved, size]
      simp only [passSource, List.length_take]
      omega
    · rw [job_commitPass, job_passEnded, job, if_neg other, if_neg other]
  | reset becomes =>
    have same : State.queueBytes u ≤ State.queueBytes State.reset :=
      queueBytes_le_of_jobs becomes.records fun j => by rw [becomes.job]
    rw [reset_queueBytes] at same
    omega

end

/-- Settles O52: a grant needs the room it reserves, and a commit's record fits the reservation that
ends with it. -/
theorem outputQueueKept : Obligations.OutputQueueKept := by
  intro s t candidates lanes inv stepped
  have flight := (laneInv_iff s).mp lanes
  rw [outputInv_iff] at inv ⊢
  obtain ⟨room, law⟩ := inv
  constructor
  · obtain ⟨pending, inbound, u, core, settles⟩ := step_core stepped
    have low : State.queueBytes u ≤ 1048576 := core.queueBytes_le room law
    refine (queueBytes_le_of_jobs (s := u) ?_ fun j => ?_).trans low
    · obtain rfl | ⟨rfl, -⟩ := settles
      · exact settle_records u
      · rfl
    · obtain same | noticed := settles.job j
      · rw [same]
      · rw [noticed]
        exact le_rfl
  · intro j
    obtain ⟨pending, inbound, v, work, same⟩ := step_work candidates lanes stepped j
    have kept : ReserveLaw (t.passInFlight j) v := work.reserveLaw (flight.2 j) (law j)
    obtain same | noticed := same
    · exact same ▸ kept
    · exact noticed ▸ kept.of_same rfl rfl rfl

end Sys2Proof.Laws
end

/-! ## Pixel intake: targets and the frame's slot -/

section
namespace Sys2Proof.Laws
open Sys2Proof.Machine

section
variable {s : State} {q : PixelsRequest} {k : Fin 24} {b : BandSlot} {j : Fin 8}

/-! ### Sets of jobs -/

theorem jobBit_has : ∀ i j : Fin 8, JobSet.has (jobBit i) j = decide (j = i) := by decide

theorem or_has (r t : JobSet) (j : Fin 8) :
    JobSet.has (r ||| t) j = (JobSet.has r j || JobSet.has t j) :=
  BitVec.getLsbD_or ..

theorem foldl_jobBit_has (js : List (Fin 8)) (r : JobSet) (j : Fin 8) :
    JobSet.has (js.foldl (fun r j => r ||| jobBit j) r) j = true ↔
      JobSet.has r j = true ∨ j ∈ js := by
  induction js generalizing r with
  | nil => simp
  | cons i js ih =>
    rw [List.foldl_cons, ih, or_has, jobBit_has, Bool.or_eq_true, decide_eq_true_iff,
      List.mem_cons, or_assoc]

theorem jobSetOf_has (js : List (Fin 8)) (j : Fin 8) :
    JobSet.has (jobSetOf js) j = true ↔ j ∈ js := by
  rw [jobSetOf, foldl_jobBit_has]
  simp [JobSet.has]

theorem jobSet_ext {r t : JobSet} (h : ∀ j, JobSet.has r j = true ↔ JobSet.has t j = true) :
    r = t := by
  refine BitVec.eq_of_getLsbD_eq fun i hi => ?_
  exact Bool.eq_iff_iff.mpr (h ⟨i, hi⟩)

/-! ### Targets (R86) -/

theorem takesPixels_iff (st : JobState) : st.takesPixels = true ↔ st ≠ .free ∧ st ≠ .done := by
  cases st <;> simp [JobState.takesPixels]

theorem mem_targets (tag : Nat) : j ∈ s.targets (BitVec.ofNat 12 tag) ↔ targets s tag j := by
  unfold State.targets targets Job.admits
  rw [List.mem_filter, Bool.and_eq_true, takesPixels_iff, beq_iff_eq, and_assoc]
  exact ⟨fun h => h.2, fun h => ⟨mem_all8 j, h⟩⟩

theorem targets_sorted (s : State) (tag : BitVec 12) : (s.targets tag).Pairwise (· < ·) :=
  List.Pairwise.filter _ (by decide)

/-- The first member of a sorted list with a property. -/
theorem find?_sorted {l : List (Fin 8)} (sorted : l.Pairwise (· < ·)) (p : Fin 8 → Bool) :
    l.find? p = some j ↔ j ∈ l ∧ p j = true ∧ ∀ i ∈ l, i < j → p i = false := by
  induction l with
  | nil => simp
  | cons a l ih =>
    obtain ⟨first, sorted⟩ := List.pairwise_cons.mp sorted
    rw [List.find?_cons]
    cases holds : p a with
    | true =>
      simp only [Option.some.injEq, List.mem_cons]
      constructor
      · rintro rfl
        refine ⟨.inl rfl, holds, ?_⟩
        rintro i (rfl | mem) lower
        · exact absurd lower (lt_irrefl _)
        · exact absurd (first i mem) lower.asymm
      · rintro ⟨rfl | mem, is_, least⟩
        · rfl
        · rw [least a (.inl rfl) (first j mem)] at holds
          cases holds
    | false =>
      simp only [ih sorted, List.mem_cons]
      constructor
      · rintro ⟨mem, is_, least⟩
        refine ⟨.inr mem, is_, ?_⟩
        rintro i (rfl | mem') lower
        · exact holds
        · exact least i mem' lower
      · rintro ⟨rfl | mem, is_, least⟩
        · rw [holds] at is_
          cases is_
        · exact ⟨mem, is_, fun i mem' => least i (.inr mem')⟩

theorem find?_target {tag : Nat} (p : Fin 8 → Bool) :
    (s.targets (BitVec.ofNat 12 tag)).find? p = some j ↔
      targets s tag j ∧ p j = true ∧ ∀ i, i < j → targets s tag i → p i = false := by
  rw [find?_sorted (targets_sorted ..), mem_targets]
  refine and_congr_right fun _ => and_congr_right fun _ => forall_congr' fun i => ?_
  rw [mem_targets]
  exact forall_comm

theorem find?_target_none {tag : Nat} (p : Fin 8 → Bool) :
    (s.targets (BitVec.ofNat 12 tag)).find? p = none ↔ ∀ j, targets s tag j → p j = false := by
  rw [List.find?_eq_none]
  refine forall_congr' fun j => ?_
  rw [mem_targets, Bool.not_eq_true]

theorem targets_cons {tag : Nat} {first : Fin 8} {others : List (Fin 8)}
    (h : s.targets (BitVec.ofNat 12 tag) = first :: others) :
    targets s tag first ∧ ∀ i, i < first → ¬targets s tag i := by
  refine ⟨(mem_targets tag).mp (by simp [h]), fun i lower target => ?_⟩
  have mem := (mem_targets (s := s) tag).mpr target
  have sorted := targets_sorted s (BitVec.ofNat 12 tag)
  rw [h] at mem sorted
  obtain rfl | mem := List.mem_cons.mp mem
  · exact lt_irrefl _ lower
  · exact lower.asymm ((List.pairwise_cons.mp sorted).1 i mem)

theorem targets_nil {tag : Nat} :
    s.targets (BitVec.ofNat 12 tag) = [] ↔ ∀ j, ¬targets s tag j := by
  rw [List.eq_nil_iff_forall_not_mem]
  exact forall_congr' fun j => not_congr (mem_targets tag)

theorem expectsNot_eq_false {v : Job} {band : Nat} :
    v.expectsNot band = false ↔ v.loaded = band ∧ v.loaded < v.bands := by
  unfold Job.expectsNot
  rw [Bool.or_eq_false_iff, decide_eq_false_iff_not, decide_eq_false_iff_not, not_not, not_le]

/-- No target expects another band. -/
theorem expected_iff {tag band : Nat} :
    ((s.targets (BitVec.ofNat 12 tag)).find? fun j => (s.job j).expectsNot band) = none ↔
      ∀ j, targets s tag j → (s.job j).loaded = band ∧ (s.job j).loaded < (s.job j).bands := by
  rw [find?_target_none]
  simp only [expectsNot_eq_false]

/-! ### The checks of R87, one after another -/

/-- Checks 1 to 4 of R87 pass (R87). -/
structure Expected (s : State) (q : PixelsRequest) (first : Fin 8) (others : List (Fin 8)) : Prop where
  calm : s.quiet = false
  tag : q.tag ≤ 4095
  list : s.targets (BitVec.ofNat 12 q.tag) = first :: others
  bands : ∀ j, targets s q.tag j →
    (s.job j).loaded = q.band ∧ (s.job j).loaded < (s.job j).bands

/-- Some target holds a loading slot: the frame continues it, or is refused. -/
theorem intakeSlot_held {first holder : Fin 8} {others : List (Fin 8)}
    (h : Expected s q first others) (loading : (s.job holder).loading = some k)
    (found : ((s.targets (BitVec.ofNat 12 q.tag)).find? fun j => (s.job j).loading.isSome) =
      some holder) :
    s.intakeSlot q = s.continuedSlot (s.targets (BitVec.ofNat 12 q.tag)) holder k := by
  have expected := (expected_iff (s := s)).mpr h.bands
  have small := h.tag
  unfold State.intakeSlot
  rw [if_neg (by simp [h.calm]), if_neg (by omega)]
  simp only [h.list] at expected found ⊢
  simp only [expected, found, loading]

/-- No target holds a loading slot: the frame begins a band, or is refused. -/
theorem intakeSlot_unheld {first : Fin 8} {others : List (Fin 8)} (h : Expected s q first others)
    (found : ((s.targets (BitVec.ofNat 12 q.tag)).find? fun j => (s.job j).loading.isSome) =
      none) :
    s.intakeSlot q =
      s.newSlot (s.targets (BitVec.ofNat 12 q.tag)) first (BitVec.ofNat 12 q.tag) q.band := by
  have expected := (expected_iff (s := s)).mpr h.bands
  have small := h.tag
  unfold State.intakeSlot
  rw [if_neg (by simp [h.calm]), if_neg (by omega)]
  simp only [h.list] at expected found ⊢
  simp only [expected, found]

/-- What the checks of R87 leave of an accepted frame. -/
theorem intakeSlot_checks {x : Fin 24 × BandSlot} (ok : s.intakeSlot q = .ok x) :
    ∃ first others, Expected s q first others := by
  unfold State.intakeSlot at ok
  split_ifs at ok with quiet tag
  simp only at ok
  split at ok
  · cases ok
  · next first others list =>
    split at ok
    · cases ok
    · next expected =>
      exact ⟨first, others, by simpa using quiet, by omega, list, expected_iff.mp expected⟩

/-! ### A frame that continues a band (R88) -/

theorem continuedSlot_ok {ts : List (Fin 8)} {holder : Fin 8} {x : Fin 24 × BandSlot} :
    s.continuedSlot ts holder k = .ok x ↔
      x.1 = k ∧ s.slots[k] = some x.2 ∧ (∀ j ∈ ts, (s.job j).loading = some k) ∧
        x.2.refs = jobSetOf ts := by
  unfold State.continuedSlot
  split
  · next b band =>
    split_ifs with same
    · rw [Bool.and_eq_true, List.all_eq_true] at same
      simp only [beq_iff_eq] at same
      constructor
      · rintro ⟨⟩
        exact ⟨rfl, band, same.1, same.2⟩
      · rintro ⟨rfl, slot, -⟩
        rw [band] at slot
        cases slot
        rfl
    · refine ⟨nofun, fun ⟨_, slot, holds, refs⟩ => absurd ?_ same⟩
      rw [band] at slot
      cases slot
      rw [Bool.and_eq_true, List.all_eq_true]
      exact ⟨fun j mem => by simp [holds j mem], by simp [refs]⟩
  · next free => exact ⟨nofun, fun ⟨_, slot, _⟩ => by rw [free] at slot; cases slot⟩

/-- The jobs of a set are the targets. -/
theorem refs_eq_targets {r : JobSet} {tag : Nat} :
    r = jobSetOf (s.targets (BitVec.ofNat 12 tag)) ↔
      ∀ j : Fin 8, r.getLsbD j.val = true ↔ targets s tag j := by
  constructor
  · rintro rfl j
    rw [← mem_targets]
    exact jobSetOf_has _ j
  · intro h
    refine jobSet_ext fun j => ?_
    rw [jobSetOf_has, mem_targets]
    exact h j

theorem continuedSlot_ok_iff {holder : Fin 8} :
    s.continuedSlot (s.targets (BitVec.ofNat 12 q.tag)) holder k = .ok (k, b) ↔
      continues s q k b := by
  rw [continuedSlot_ok, refs_eq_targets]
  simp only [true_and, mem_targets]
  rfl

/-! ### A frame that begins a band (R89) -/

theorem credit_eq_zero {v : Job} : v.credit = 0 ↔ 4 ≤ v.loaded - v.emitted := by
  unfold Job.credit
  omega

theorem find?_finRange {n : Nat} (p : Fin n → Bool) {k : Fin n} :
    (List.finRange n).find? p = some k ↔ p k = true ∧ ∀ i, i < k → p i = false := by
  rw [List.find?_eq_some_iff_getElem]
  constructor
  · rintro ⟨holds, i, inside, here, before⟩
    simp only [List.getElem_finRange] at here before
    refine ⟨holds, fun a lower => ?_⟩
    have ival : k.val = i := by rw [← here]; rfl
    have := before a.val (by omega)
    simpa using this
  · rintro ⟨holds, before⟩
    refine ⟨holds, k.val, by simp, by simp, fun i lower => ?_⟩
    simpa using before ⟨i, by omega⟩ lower

theorem firstFreeSlot_eq_some :
    s.firstFreeSlot = some k ↔ s.slots[k] = none ∧ ∀ i : Fin 24, i < k → s.slots[i] ≠ none := by
  unfold State.firstFreeSlot all24
  rw [find?_finRange, Option.isNone_iff_eq_none]
  simp only [Option.isNone_eq_false_iff, Option.ne_none_iff_isSome]

theorem firstFreeSlot_eq_none : s.firstFreeSlot = none ↔ ∀ k : Fin 24, s.slots[k] ≠ none := by
  unfold State.firstFreeSlot all24
  rw [List.find?_eq_none]
  simp [List.mem_finRange]

theorem newSlot_ok {tag : Nat} {first : Fin 8} {band : Nat} {x : Fin 24 × BandSlot} :
    s.newSlot (s.targets (BitVec.ofNat 12 tag)) first (BitVec.ofNat 12 tag) band = .ok x ↔
      (∀ j, targets s tag j → (s.job j).loaded - (s.job j).emitted < 4) ∧
        s.firstFreeSlot = some x.1 ∧
        x.2 = freshSlot (BitVec.ofNat 12 tag) band (s.job first)
          (jobSetOf (s.targets (BitVec.ofNat 12 tag))) := by
  have credit : ((s.targets (BitVec.ofNat 12 tag)).find? fun j => (s.job j).credit == 0) = none ↔
      ∀ j, targets s tag j → (s.job j).loaded - (s.job j).emitted < 4 := by
    rw [find?_target_none]
    refine forall_congr' fun j => imp_congr_right fun _ => ?_
    rw [beq_eq_false_iff_ne, ne_eq, credit_eq_zero, not_le]
  rw [← credit]
  unfold State.newSlot
  split
  · next spent => simp [spent]
  · next spent =>
    split
    · next full => simp [full]
    · next k free =>
      simp only [spent, free, true_and, Except.ok.injEq, Option.some.injEq]
      rw [Prod.ext_iff, eq_comm (a := k)]
      exact and_congr_right fun _ => eq_comm

/-- The slot that would be allocated, as the statements write it. -/
theorem freshSlot_iff {tag band : Nat} {first : Fin 8} :
    b = freshSlot (BitVec.ofNat 12 tag) band (s.job first)
        (jobSetOf (s.targets (BitVec.ofNat 12 tag))) ↔
      b.full = false ∧ b.tag = BitVec.ofNat 12 tag ∧ b.band = band ∧
        b.rows = List.replicate b.rowsNeeded [] ∧
        (∀ j : Fin 8, b.refs.getLsbD j.val = true ↔ targets s tag j) ∧
        b.width = (s.job first).width ∧
        b.rowsNeeded =
          if band + 1 = (s.job first).bands then
            (s.job first).height - 16 * ((s.job first).bands - 1)
          else 16 := by
  rw [← refs_eq_targets]
  constructor
  · rintro rfl
    exact ⟨rfl, rfl, rfl, rfl, rfl, rfl, rfl⟩
  · obtain ⟨full, tag', band', width, needed, rows, refs⟩ := b
    rintro ⟨full', tag'', band'', rows', refs', width', needed'⟩
    simp only at full' tag'' band'' rows' refs' width' needed'
    subst full' tag'' band'' rows' refs' width' needed'
    rfl

theorem newSlot_ok_iff {first : Fin 8} {others : List (Fin 8)}
    (list : s.targets (BitVec.ofNat 12 q.tag) = first :: others)
    (unheld : ∀ j, targets s q.tag j → (s.job j).loading = none) :
    s.newSlot (s.targets (BitVec.ofNat 12 q.tag)) first (BitVec.ofNat 12 q.tag) q.band =
        .ok (k, b) ↔ begins s q k b := by
  obtain ⟨target, least⟩ := targets_cons list
  rw [newSlot_ok, firstFreeSlot_eq_some, freshSlot_iff]
  constructor
  · rintro ⟨credit, ⟨free, lowest⟩, full, tag, band, rows, refs, width, needed⟩
    exact ⟨fun j h => ⟨unheld j h, credit j h⟩, free, lowest, full, tag, band, rows, refs, first,
      target, least, width, needed⟩
  · rintro ⟨fresh, free, lowest, full, tag, band, rows, refs, first', target', least', width,
      needed⟩
    obtain rfl : first' = first := by
      by_contra apart
      obtain lower | lower := lt_or_gt_of_ne apart
      · exact least first' lower target'
      · exact least' first lower target
    exact ⟨fun j h => (fresh j h).2, ⟨free, lowest⟩, full, tag, band, rows, refs, width, needed⟩

/-- The frame's slot by checks 1 to 6 of R87, as the statements write it. -/
theorem intakeSlot_ok_iff : s.intakeSlot q = .ok (k, b) ↔ admitted s q k b := by
  by_cases checks : ∃ first others, Expected s q first others
  · obtain ⟨first, others, h⟩ := checks
    have target := (targets_cons h.list).1
    have admitted_iff : admitted s q k b ↔ continues s q k b ∨ begins s q k b :=
      ⟨fun h => h.2.2.2.2, fun slot => ⟨h.calm, h.tag, ⟨first, target⟩, h.bands, slot⟩⟩
    rw [admitted_iff]
    cases found : (s.targets (BitVec.ofNat 12 q.tag)).find? fun j => (s.job j).loading.isSome with
    | some holder =>
      obtain ⟨mem, holds, -⟩ := (find?_target _).mp found
      obtain ⟨i, loading⟩ := Option.isSome_iff_exists.mp holds
      have unbegun : ¬begins s q k b := fun h => by
        rw [(h.1 holder mem).1] at loading
        cases loading
      rw [intakeSlot_held h loading found]
      simp only [unbegun, or_false]
      constructor
      · intro ok
        obtain rfl : k = i := (continuedSlot_ok.mp ok).1
        exact continuedSlot_ok_iff.mp ok
      · intro h
        have same := h.2.1 holder mem
        rw [loading] at same
        cases same
        exact continuedSlot_ok_iff.mpr h
    | none =>
      have unheld : ∀ j, targets s q.tag j → (s.job j).loading = none := fun j target => by
        simpa using (find?_target_none _).mp found j target
      have uncontinued : ¬continues s q k b := fun h => by
        have held := h.2.1 first target
        rw [unheld first target] at held
        cases held
      rw [intakeSlot_unheld h found, newSlot_ok_iff h.list unheld]
      simp only [uncontinued, false_or]
  · constructor
    · exact fun ok => absurd (intakeSlot_checks ok) checks
    · rintro ⟨calm, tag, ⟨j, target⟩, expected, -⟩
      have some_ : s.targets (BitVec.ofNat 12 q.tag) ≠ [] := fun empty =>
        targets_nil.mp empty j target
      obtain ⟨first, others, list⟩ := List.exists_cons_of_ne_nil some_
      exact absurd ⟨first, others, calm, tag, list, expected⟩ checks

end

end Sys2Proof.Laws
end

/-! ## Band slots after an event (O56) -/

section
namespace Sys2Proof.Laws
open Sys2Proof.Machine

section
variable {s u t v : State} {k : Fin 24} {b : BandSlot} {j : Fin 8}

/-- Every way an event can change one band slot. -/
inductive SlotCase (s : State) (k : Fin 24) : Option BandSlot → Prop
  | stays : SlotCase s k s.slots[k]
  | frees : SlotCase s k none
  | left (j : Fin 8) : SlotCase s k (leaveSlot j s.slots[k])
  | begun (q : PixelsRequest) (b : BandSlot) (idle : s.writing = none)
    (slot : s.intakeSlot q = .ok (k, b)) (data : dataRefusal b q = none) : SlotCase s k (some b)
  | filled (w : PixelWrite) (b : BandSlot) (writing : s.inHand = .pixels w) (here : w.slot = k)
    (band : s.slots[k] = some b) (complete : (b.withPixels w.row w.pixels).allComplete = true) :
    SlotCase s k (some { b.withPixels w.row w.pixels with full := true })
  | written (w : PixelWrite) (b : BandSlot) (writing : s.inHand = .pixels w) (here : w.slot = k)
    (band : s.slots[k] = some b) (incomplete : (b.withPixels w.row w.pixels).allComplete = false) :
    SlotCase s k (some (b.withPixels w.row w.pixels))

theorem SlotCase.of_eq {o : Option BandSlot} (h : o = s.slots[k]) : SlotCase s k o := h ▸ .stays

theorem SameCore.slot (h : SameCore v u) (k : Fin 24) : u.slots[k] = v.slots[k] := by
  rw [h.slots]

theorem slots_commit (s : State) (j : Fin 8) (c : CommitSource) (k : Fin 24) :
    (s.commit j c).slots[k] = if k = c.slot then leaveSlot j s.slots[k] else s.slots[k] := by
  have slots : (s.commit j c).slots[k] =
      (s.setSlot c.slot (leaveSlot j s.slots[c.slot])).slots[k] := rfl
  rw [slots, slots_setSlot]
  split_ifs with here
  · rw [here]
  · rfl

theorem slots_freeContext (s : State) (j : Fin 8) (k : Fin 24) :
    (s.freeContext j).slots[k] = leaveSlot j s.slots[k] :=
  slots_leaveAll s j k

theorem slots_beginWrite (s : State) (f : Frame) (q : PixelsRequest) (i : Fin 24) (b : BandSlot)
    (k : Fin 24) :
    (s.beginWrite f q i b).slots[k] = if k = i then some b else s.slots[k] :=
  slots_setSlot s k i (some b)

theorem slots_storeWritten (s : State) (i : Fin 24) (b : BandSlot) (k : Fin 24) :
    (s.storeWritten i b).slots[k] =
      if k = i then some { b with full := b.full || b.allComplete } else s.slots[k] := by
  unfold State.storeWritten
  cases complete : b.allComplete with
  | true =>
    simp only [if_true, mapJobs_slots, slots_setSlot, Bool.or_true]
  | false =>
    simp only [Bool.false_eq_true, if_false, slots_setSlot, Bool.or_false]

theorem CoreCase.slotCase (h : CoreCase s u) (k : Fin 24) : SlotCase s k u.slots[k] := by
  cases h with
  | jobs slots => exact .of_eq (by rw [slots])
  | opened i k p r free ready inRange reloads taken becomes => exact .of_eq (becomes.slot _)
  | freed i off becomes =>
    rw [becomes.slot, slots_freeContext]
    exact .left i
  | resolved i w c halted withheld source becomes =>
    have slots : (s.commitWithheld i c).slots[k] = (s.commit i c).slots[k] := rfl
    rw [becomes.slot, slots, slots_commit]
    split_ifs
    · exact .left i
    · exact .stays
  | requeued i w next index budget halted withheld indexed budgeted becomes =>
    exact .of_eq (becomes.slot _)
  | writeBegun f q i b off slot data becomes =>
    rw [becomes.slot, slots_beginWrite]
    split_ifs with here
    · subst here
      exact .begun q b off slot data
    · exact .stays
  | writeDone w writing becomes =>
    rw [becomes.slot]
    unfold State.writeDone
    split
    · next b band =>
      change SlotCase s k (s.storeWritten w.slot (b.withPixels w.row w.pixels)).slots[k]
      rw [slots_storeWritten]
      split_ifs with here
      · subst here
        cases complete : (b.withPixels w.row w.pixels).allComplete with
        | true =>
          rw [Bool.or_true]
          exact .filled w b writing rfl band complete
        | false =>
          rw [Bool.or_false]
          exact .written w b writing rfl band complete
      · exact .stays
    · exact .stays
  | sent n becomes => exact .of_eq (becomes.slot _)
  | granted l i others k' rest lane head ready room becomes =>
    subst becomes
    exact .of_eq rfl
  | wentOn coded coding fits more becomes =>
    subst becomes
    exact .of_eq rfl
  | halted coded coding ends ended becomes =>
    subst becomes
    exact .of_eq rfl
  | climbed coded coding ended becomes =>
    subst becomes
    exact .of_eq rfl
  | @committed l p b q r c d coded coding ended becomes =>
    have slots : u.slots[k] = ((State.passEnded s d).commit d.pass.job (passSource d)).slots[k] := by
      rw [becomes]
      rfl
    rw [slots, slots_commit]
    split_ifs
    · exact .left _
    · exact .stays
  | reset becomes =>
    rw [becomes.slot]
    have free : State.reset.slots[k] = none := by
      revert k
      decide
    rw [free]
    exact .frees

/-- What becomes of the write in hand: it ends, it goes on over slots that jobs have left at most, or
one begins. -/
inductive WritingCase (s u : State) : Prop
  | ends (idle : u.writing = none)
  | goesOn (same : u.writing = s.writing)
    (slots : ∀ k : Fin 24, u.slots[k] = s.slots[k] ∨ ∃ j, u.slots[k] = leaveSlot j s.slots[k])
  | begins (f : Frame) (q : PixelsRequest) (k : Fin 24) (b : BandSlot)
    (slot : s.intakeSlot q = .ok (k, b)) (data : dataRefusal b q = none)
    (writing : u.writing =
      some { unit := f.unit, slot := k, row := q.row, pixels := tripletsOf q.data })
    (band : u.slots[k] = some b)

theorem WritingCase.of_same (same : u.writing = s.writing) (slots : u.slots = s.slots) :
    WritingCase s u :=
  .goesOn same fun k => .inl (by rw [slots])

theorem CoreCase.writingCase (h : CoreCase s u) : WritingCase s u := by
  cases h with
  | jobs slots lanes candidates records writing => exact .of_same writing slots
  | opened i k p r free ready inRange reloads taken becomes =>
    exact .of_same becomes.writing becomes.slots
  | freed i off becomes =>
    refine .ends (becomes.writing.trans ?_)
    rw [← off, State.writing, freeContext_inHand, State.writing]
  | resolved i w c halted withheld source becomes =>
    refine .goesOn becomes.writing fun k => ?_
    have slots : (s.commitWithheld i c).slots[k] = (s.commit i c).slots[k] := rfl
    rw [becomes.slot, slots, slots_commit]
    split_ifs
    · exact .inr ⟨i, rfl⟩
    · exact .inl rfl
  | requeued i w next index budget halted withheld indexed budgeted becomes =>
    exact .of_same becomes.writing becomes.slots
  | writeBegun f q i b off slot data becomes =>
    refine .begins f q i b slot data becomes.writing ?_
    rw [becomes.slot, slots_beginWrite, if_pos rfl]
  | writeDone w writing becomes =>
    refine .ends (becomes.writing.trans ?_)
    rw [State.writing, (writeDone_table s w).2.2.2.2]
  | sent n becomes => exact .of_same becomes.writing becomes.slots
  | granted l i others k' rest lane head ready room becomes =>
    subst becomes
    exact .of_same rfl rfl
  | wentOn coded coding fits more becomes =>
    subst becomes
    exact .of_same rfl rfl
  | halted coded coding ends ended becomes =>
    subst becomes
    exact .of_same rfl rfl
  | climbed coded coding ended becomes =>
    subst becomes
    exact .of_same rfl rfl
  | @committed l p b q r c d coded coding ended becomes =>
    refine .goesOn (by rw [becomes]; rfl) fun k => ?_
    have slots : u.slots[k] = ((State.passEnded s d).commit d.pass.job (passSource d)).slots[k] := by
      rw [becomes]
      rfl
    rw [slots, slots_commit]
    split_ifs
    · exact .inr ⟨_, rfl⟩
    · exact .inl rfl
  | reset becomes => exact .ends (becomes.writing.trans rfl)

/-! ### The law of a slot's content -/

/-- What a band slot holds (R83, R90, R93). -/
structure SlotLaw (b : BandSlot) : Prop where
  needed : b.rows.length = b.rowsNeeded
  rows : ∀ row ∈ b.rows, row.length ≤ b.width
  full : b.full = true → b.allComplete = true

/-- A write in progress fits its row (R90). -/
structure WriteLaw (w : PixelWrite) (b : BandSlot) : Prop where
  row : w.row < b.rowsNeeded
  room : b.received w.row + w.pixels.length ≤ b.width

theorem slotInv_iff (s : State) :
    SlotInv s ↔ (∀ k : Fin 24, ∀ b ∈ s.slots[k], SlotLaw b) ∧
      ∀ w ∈ s.writing, ∀ b ∈ s.slots[w.slot], WriteLaw w b :=
  and_congr
    (forall_congr' fun _ => forall₂_congr fun _ _ =>
      ⟨fun ⟨needed, rows, full⟩ => ⟨needed, rows, full⟩, fun h => ⟨h.needed, h.rows, h.full⟩⟩)
    (forall₂_congr fun _ _ => forall₂_congr fun _ _ =>
      ⟨fun ⟨row, room⟩ => ⟨row, room⟩, fun h => ⟨h.row, h.room⟩⟩)

/-- A job that leaves a slot changes its reference set alone. -/
theorem leaveSlot_some {o : Option BandSlot} {b : BandSlot} (h : leaveSlot j o = some b) :
    ∃ b' refs, o = some b' ∧ b = { b' with refs := refs } := by
  unfold leaveSlot at h
  split at h
  · next b' =>
    split_ifs at h with member last
    · cases h
      exact ⟨b', _, rfl, rfl⟩
    · cases h
      exact ⟨b, b.refs, rfl, rfl⟩
  · cases h

theorem SlotLaw.leave {o : Option BandSlot} {b : BandSlot} (h : ∀ b ∈ o, SlotLaw b)
    (left : leaveSlot j o = some b) : SlotLaw b := by
  obtain ⟨b', refs, rfl, rfl⟩ := leaveSlot_some left
  have law := h b' rfl
  exact ⟨law.needed, law.rows, law.full⟩

theorem tripletsOf_length (data : List Byte) : (tripletsOf data).length = data.length / 3 := by
  fun_induction tripletsOf data with
  | case1 r g b rest ih =>
    simp only [List.length_cons, ih]
    omega
  | case2 data short =>
    match data with
    | [] => rfl
    | [_] => simp
    | [_, _] => simp
    | r :: g :: b :: rest => exact absurd rfl (short r g b rest)

/-- An accepted frame's data fit their row (R90). -/
theorem dataRefusal_eq_none {q : PixelsRequest} :
    dataRefusal b q = none ↔ (1 ≤ q.count ∧ q.count ≤ 1024) ∧ q.row < b.rowsNeeded ∧
      q.x = b.received q.row ∧ q.x + q.count ≤ b.width ∧ q.data.length = 3 * q.count := by
  unfold dataRefusal
  split_ifs with count row order overflow size <;> simp <;> omega

theorem writeLaw_of_data {q : PixelsRequest} (data : dataRefusal b q = none) (unit : Byte) :
    WriteLaw { unit := unit, slot := k, row := q.row, pixels := tripletsOf q.data } b := by
  obtain ⟨-, row, order, room, size⟩ := dataRefusal_eq_none.mp data
  refine ⟨row, ?_⟩
  simp only [tripletsOf_length, size]
  omega

/-- The slot a frame begins or continues is lawful. -/
theorem SlotLaw.intake {q : PixelsRequest} (h : ∀ b ∈ s.slots[k], SlotLaw b)
    (slot : s.intakeSlot q = .ok (k, b)) : SlotLaw b := by
  obtain ⟨-, -, -, -, continued | begun⟩ := intakeSlot_ok_iff.mp slot
  · exact h b continued.1
  · obtain ⟨-, -, -, full, -, -, rows, -⟩ := begun
    refine ⟨by rw [rows, List.length_replicate], fun row mem => ?_, fun full' => ?_⟩
    · rw [rows] at mem
      rw [(List.mem_replicate.mp mem).2]
      exact Nat.zero_le _
    · rw [full] at full'
      cases full'

theorem received_eq {row : Nat} (inside : row < b.rows.length) :
    b.received row = b.rows[row].length := by
  simp [BandSlot.received, inside]

/-- The slot with a frame's pixels in their row (R92). -/
theorem SlotLaw.withPixels (h : SlotLaw b) {w : PixelWrite} (fits : WriteLaw w b) :
    SlotLaw (b.withPixels w.row w.pixels) := by
  have inside : w.row < b.rows.length := h.needed ▸ fits.row
  have row : b.rows.getD w.row [] = b.rows[w.row] := by simp [inside]
  have room := fits.room
  rw [received_eq inside] at room
  refine ⟨by simpa [BandSlot.withPixels] using h.needed, fun r mem => ?_, fun full => ?_⟩
  · obtain mem | rfl := List.mem_or_eq_of_mem_set mem
    · exact h.rows r mem
    · rw [row, List.length_append]
      exact room
  · have complete := h.full full
    simp only [BandSlot.allComplete, List.all_eq_true, beq_iff_eq] at complete ⊢
    intro r mem
    obtain mem | rfl := List.mem_or_eq_of_mem_set mem
    · exact complete r mem
    · have whole := complete _ (List.getElem_mem inside)
      rw [row, List.length_append]
      simp only [BandSlot.withPixels]
      omega

theorem SlotCase.slotLaw {o : Option BandSlot} (became : SlotCase s k o)
    (slots : ∀ b ∈ s.slots[k], SlotLaw b)
    (writing : ∀ w ∈ s.writing, ∀ b ∈ s.slots[w.slot], WriteLaw w b) : ∀ b ∈ o, SlotLaw b := by
  have fits (w : PixelWrite) (b : BandSlot) (inHand : s.inHand = .pixels w) (here : w.slot = k)
      (band : s.slots[k] = some b) : WriteLaw w b :=
    writing w (by simp [State.writing, inHand]) b (by subst here; exact band)
  cases became with
  | stays => exact slots
  | frees => exact fun _ => nofun
  | left j => exact fun b left => SlotLaw.leave slots left
  | begun q b idle slot data =>
    rintro _ ⟨⟩
    exact SlotLaw.intake slots slot
  | filled w b inHand here band complete =>
    rintro _ ⟨⟩
    have law := (slots b band).withPixels (fits w b inHand here band)
    exact ⟨law.needed, law.rows, fun _ => complete⟩
  | written w b inHand here band incomplete =>
    rintro _ ⟨⟩
    exact (slots b band).withPixels (fits w b inHand here band)

theorem WritingCase.writeLaw (became : WritingCase s u)
    (writing : ∀ w ∈ s.writing, ∀ b ∈ s.slots[w.slot], WriteLaw w b) :
    ∀ w ∈ u.writing, ∀ b ∈ u.slots[w.slot], WriteLaw w b := by
  cases became with
  | ends idle => simp [idle]
  | goesOn same slots =>
    rw [same]
    intro w hw b hb
    obtain stays | ⟨j, left⟩ := slots w.slot
    · rw [stays] at hb
      exact writing w hw b hb
    · rw [left] at hb
      obtain ⟨b', refs, band, rfl⟩ := leaveSlot_some hb
      have law := writing w hw b' band
      exact ⟨law.row, law.room⟩
  | begins f q k b slot data new band =>
    rw [new]
    rintro _ ⟨⟩ b' hb
    rw [band] at hb
    cases hb
    exact writeLaw_of_data data f.unit

/-- What settles leaves the slots and the write in hand. -/
theorem Settles.slots (h : Settles s u t) : t.slots = u.slots ∧ t.writing = u.writing := by
  obtain rfl | ⟨rfl, -⟩ := h
  · exact ⟨settle_slots u, by rw [State.writing, settle_inHand, State.writing]⟩
  · exact ⟨rfl, rfl⟩

end

/-- Settles O56: a slot is begun empty, written within its rows, and FULL with its last pixel. -/
theorem slotContentsKept : Obligations.SlotContentsKept := by
  intro s t inv stepped
  rw [slotInv_iff] at inv ⊢
  obtain ⟨slots, writing⟩ := inv
  obtain ⟨pending, inbound, u, core, settles⟩ := step_core stepped
  obtain ⟨same, same'⟩ := settles.slots
  rw [same, same']
  exact ⟨fun k => (core.slotCase k).slotLaw (slots k) writing, core.writingCase.writeLaw writing⟩

end Sys2Proof.Laws
end

/-! ## Reference sets (O55) -/

section
namespace Sys2Proof.Laws
open Sys2Proof.Machine

/-- The slot of a coding band or withheld band (R63). -/
def workOf (o : Option (Fin 2 × PassState)) (v : Job) : Option (Fin 24) :=
  match o with
  | some (_, p) => some p.slot
  | none => v.withheld.map Withheld.slot

/-- The slots of a context with its coding band (R63, R85). -/
def holdsOf (o : Option (Fin 2 × PassState)) (v : Job) : List (Fin 24) :=
  v.loading.toList ++ (workOf o v).toList ++ v.ready

/-- The job is in the reference set of a slot (R83, R85). -/
def State.member (s : State) (j : Fin 8) (k : Fin 24) : Bool :=
  (s.slots[k]).any fun b => JobSet.has b.refs j

theorem workSlot_eq (s : State) (j : Fin 8) :
    s.workSlot j = workOf (s.coding j) (s.job j) := rfl

theorem holds_eq (s : State) (j : Fin 8) : s.holds j = holdsOf (s.coding j) (s.job j) := rfl

/-- The reference set law, by name. -/
structure HoldLaw (s : State) : Prop where
  free : ∀ j, (s.job j).state = .free → s.job j = freeJob
  nodup : ∀ j, (s.holds j).Nodup
  holds : ∀ j k, k ∈ s.holds j ↔ State.member s j k = true
  refs : ∀ k : Fin 24, ∀ b ∈ s.slots[k], b.refs ≠ 0
  filling : ∀ (j : Fin 8) (k : Fin 24), ∀ b ∈ s.slots[k], JobSet.has b.refs j = true →
    (b.full = false ↔ (s.job j).loading = some k)
  writing : ∀ w ∈ s.writing, (s.slots[w.slot]).any (fun b => !b.full) = true

theorem holdInv_iff (s : State) : HoldInv s ↔ HoldLaw s :=
  ⟨fun ⟨free, nodup, holds, refs, filling, writing⟩ =>
    ⟨free, nodup, holds, refs, filling, writing⟩,
    fun h => ⟨h.free, h.nodup, h.holds, h.refs, h.filling, h.writing⟩⟩

section
variable {s u t v : State} {i j : Fin 8} {k : Fin 24} {b : BandSlot}

theorem member_iff : State.member s j k = true ↔ ∃ b, s.slots[k] = some b ∧ JobSet.has b.refs j = true := by
  unfold State.member
  cases s.slots[k] with
  | none => simp
  | some b => simp

theorem member_of_slot (h : u.slots[k] = s.slots[k]) (j : Fin 8) :
    State.member u j k = State.member s j k := by
  rw [State.member, h, State.member]

theorem slot_of_slots (h : u.slots = s.slots) (k : Fin 24) : u.slots[k] = s.slots[k] := by rw [h]

/-! ### Leaving a slot (R95) -/

theorem leaveSlot_of_not_member (h : State.member s j k = false) :
    leaveSlot j s.slots[k] = s.slots[k] := by
  unfold State.member at h
  unfold leaveSlot
  split
  · next b band =>
    rw [band, Option.any_some] at h
    rw [if_neg (by simp [h])]
    exact band.symm
  · next free => exact free.symm

theorem without_has (r : JobSet) (i j : Fin 8) :
    JobSet.has (r &&& ~~~(jobBit i)) j = (JobSet.has r j && decide (j ≠ i)) := by
  have bit := jobBit_has i j
  unfold JobSet.has at bit ⊢
  rw [BitVec.getLsbD_and, BitVec.getLsbD_not, bit]
  simp

theorem jobSet_eq_zero {r : JobSet} : r = 0 ↔ ∀ j, JobSet.has r j = false := by
  constructor
  · rintro rfl j
    simp [JobSet.has]
  · intro h
    refine jobSet_ext fun j => ?_
    rw [h j]
    simp [JobSet.has]

/-- The members of a slot a job has left. -/
theorem leaveSlot_member (o : Option BandSlot) (i j : Fin 8) :
    (leaveSlot i o).any (fun b => JobSet.has b.refs j) =
      (o.any (fun b => JobSet.has b.refs j) && decide (j ≠ i)) := by
  unfold leaveSlot
  split
  · next b =>
    split_ifs with member last
    · have none_ := jobSet_eq_zero.mp last j
      rw [without_has] at none_
      exact none_.symm
    · simp [without_has]
    · by_cases here : j = i
      · subst here
        simp [member]
      · simp [here]
  · rfl

theorem leaveSlot_refs {o : Option BandSlot} (h : ∀ b ∈ o, b.refs ≠ 0) :
    ∀ b ∈ leaveSlot j o, b.refs ≠ 0 := by
  unfold leaveSlot
  split
  · next b' =>
    split_ifs with member last
    · exact fun _ => nofun
    · rintro _ ⟨⟩
      exact last
    · exact h
  · exact fun _ => nofun

/-! ### Laws of the kinds of change -/

/-- The slots, and what the contexts hold, are as they were. -/
theorem HoldLaw.of_same (h : HoldLaw s) (slots : u.slots = s.slots)
    (free : ∀ j, (u.job j).state = .free → u.job j = freeJob)
    (holds : ∀ j, u.holds j = s.holds j)
    (loading : ∀ j, (u.job j).loading = (s.job j).loading)
    (writing : ∀ w ∈ u.writing, (u.slots[w.slot]).any (fun b => !b.full) = true) :
    HoldLaw u where
  free := free
  nodup := fun j => by
    rw [holds]
    exact h.nodup j
  holds := fun j k => by
    rw [holds, member_of_slot (slot_of_slots slots k)]
    exact h.holds j k
  refs := by rw [slots]; exact h.refs
  filling := by
    intro j k
    rw [slots, loading]
    exact h.filling j k
  writing := writing

/-- A job has left some of its slots. -/
theorem HoldLaw.of_left (h : HoldLaw s) (gone : List (Fin 24))
    (free : ∀ j, (u.job j).state = .free → u.job j = freeJob)
    (slots : ∀ k : Fin 24, u.slots[k] = if k ∈ gone then leaveSlot i s.slots[k] else s.slots[k])
    (mine : (s.holds i).Perm (gone ++ u.holds i))
    (held : ∀ k, (u.job i).loading = some k → (s.job i).loading = some k)
    (kept : ∀ k, (s.job i).loading = some k → k ∉ gone → (u.job i).loading = some k)
    (others : ∀ j, j ≠ i → u.holds j = s.holds j ∧ (u.job j).loading = (s.job j).loading)
    (writing : ∀ w ∈ u.writing, w ∈ s.writing ∧ w.slot ∉ gone) : HoldLaw u := by
  have member (j : Fin 8) (k : Fin 24) :
      State.member u j k = (State.member s j k && decide (¬(j = i ∧ k ∈ gone))) := by
    unfold State.member
    rw [slots]
    split_ifs with left
    · rw [leaveSlot_member]
      simp [left]
    · simp [left]
  have nodup := mine.nodup_iff.mp (h.nodup i)
  have apart := (List.nodup_append.mp nodup).2.2
  refine ⟨free, fun j => ?_, fun j k => ?_, fun k => ?_, fun j k b band has => ?_,
    fun w hw => ?_⟩
  · by_cases here : j = i
    · subst here
      exact (List.nodup_append.mp nodup).2.1
    · rw [(others j here).1]
      exact h.nodup j
  · rw [member, Bool.and_eq_true, decide_eq_true_iff, ← h.holds]
    by_cases here : j = i
    · subst here
      rw [mine.mem_iff, List.mem_append]
      constructor
      · exact fun holds => ⟨.inr holds, fun left => apart k left.2 k holds rfl⟩
      · exact fun ⟨holds, stays⟩ => holds.resolve_left fun left => stays ⟨rfl, left⟩
    · rw [(others j here).1]
      simp [here]
  · rw [slots]
    split_ifs
    · exact leaveSlot_refs (h.refs k)
    · exact h.refs k
  · have member' : State.member u j k = true := member_iff.mpr ⟨b, band, has⟩
    rw [member, Bool.and_eq_true, decide_eq_true_iff] at member'
    obtain ⟨was, stays⟩ := member'
    obtain ⟨b', band', has'⟩ := member_iff.mp was
    have full : b.full = b'.full := by
      have slot := slots k
      rw [band] at slot
      split_ifs at slot
      · obtain ⟨b'', refs, same, rfl⟩ := leaveSlot_some slot.symm
        rw [band'] at same
        cases same
        rfl
      · rw [band'] at slot
        cases slot
        rfl
    rw [full, h.filling j k b' band' has']
    by_cases here : j = i
    · subst here
      exact ⟨fun loading => kept k loading fun left => stays ⟨rfl, left⟩, held k⟩
    · rw [(others j here).2]
  · obtain ⟨was, stays⟩ := writing w hw
    rw [slots, if_neg stays]
    exact h.writing w was

/-- A new slot has become the loading slot of its members (R89). -/
theorem HoldLaw.of_begun (h : HoldLaw s)
    (free : ∀ j, (u.job j).state = .free → u.job j = freeJob)
    (fresh : s.slots[k] = none) (band : u.slots[k] = some b) (full : b.full = false)
    (some_ : b.refs ≠ 0)
    (slots : ∀ i : Fin 24, i ≠ k → u.slots[i] = s.slots[i])
    (member : ∀ j, JobSet.has b.refs j = true →
      (s.job j).loading = none ∧ u.holds j = k :: s.holds j ∧ (u.job j).loading = some k)
    (others : ∀ j, JobSet.has b.refs j = false →
      u.holds j = s.holds j ∧ (u.job j).loading = (s.job j).loading)
    (writing : ∀ w ∈ u.writing, w.slot = k) : HoldLaw u := by
  have unheld (j : Fin 8) : k ∉ s.holds j := by
    rw [h.holds, member_iff, fresh]
    rintro ⟨_, ⟨⟩, -⟩
  have members (j : Fin 8) : State.member u j k = JobSet.has b.refs j := by
    rw [State.member, band]
    rfl
  refine ⟨free, fun j => ?_, fun j i => ?_, fun i => ?_, fun j i b' band' has => ?_,
    fun w hw => ?_⟩
  · cases mine : JobSet.has b.refs j with
    | true =>
      rw [(member j mine).2.1]
      exact List.nodup_cons.mpr ⟨unheld j, h.nodup j⟩
    | false =>
      rw [(others j mine).1]
      exact h.nodup j
  · by_cases here : i = k
    · subst here
      rw [members]
      cases mine : JobSet.has b.refs j with
      | true => simp [(member j mine).2.1]
      | false => simp [(others j mine).1, unheld j]
    · rw [member_of_slot (slots i here), ← h.holds]
      cases mine : JobSet.has b.refs j with
      | true => simp [(member j mine).2.1, here]
      | false => rw [(others j mine).1]
  · by_cases here : i = k
    · subst here
      rw [band]
      rintro _ ⟨⟩
      exact some_
    · rw [slots i here]
      exact h.refs i
  · by_cases here : i = k
    · subst here
      rw [band] at band'
      cases band'
      simp [full, (member j has).2.2]
    · rw [slots i here] at band'
      rw [h.filling j i b' band' has]
      cases mine : JobSet.has b.refs j with
      | true => simp [(member j mine).1, (member j mine).2.2, Ne.symm here]
      | false => rw [(others j mine).2]
  · obtain rfl := writing w hw
    simp [band, full]

/-- A slot's content has changed, its reference set has not, and it has become FULL or not. -/
theorem HoldLaw.of_written {b' : BandSlot} (h : HoldLaw s)
    (free : ∀ j, (u.job j).state = .free → u.job j = freeJob)
    (was : s.slots[k] = some b) (band : u.slots[k] = some b') (refs : b'.refs = b.refs)
    (slots : ∀ i : Fin 24, i ≠ k → u.slots[i] = s.slots[i])
    (holds : ∀ j, (u.holds j).Perm (s.holds j))
    (filling : ∀ j, JobSet.has b.refs j = true →
      (b'.full = false ↔ (u.job j).loading = some k))
    (loading : ∀ j i, i ≠ k → ((u.job j).loading = some i ↔ (s.job j).loading = some i))
    (idle : u.writing = none) : HoldLaw u := by
  have members (j : Fin 8) (i : Fin 24) : State.member u j i = State.member s j i := by
    by_cases here : i = k
    · subst here
      rw [State.member, State.member, band, was, Option.any_some, Option.any_some, refs]
    · exact member_of_slot (slots i here) j
  refine ⟨free, fun j => (holds j).nodup_iff.mpr (h.nodup j), fun j i => ?_, fun i => ?_,
    fun j i c band' has => ?_, by simp [idle]⟩
  · rw [(holds j).mem_iff, h.holds]
    exact (members j i ▸ Iff.rfl)
  · by_cases here : i = k
    · subst here
      rw [band]
      rintro _ ⟨⟩
      rw [refs]
      exact h.refs i b was
    · rw [slots i here]
      exact h.refs i
  · by_cases here : i = k
    · subst here
      rw [band] at band'
      cases band'
      exact filling j (refs ▸ has)
    · rw [slots i here] at band'
      rw [h.filling j i c band' has]
      exact (loading j i here).symm

/-! ### What the contexts hold, event by event -/

/-- A context holds the slots it held, with its coding band (R63). -/
structure HoldsSame (s : State) (j : Fin 8) (o : Option (Fin 2 × PassState)) (v : Job) : Prop where
  holds : holdsOf o v = s.holds j
  loading : v.loading = (s.job j).loading

theorem HoldsSame.refl (s : State) (j : Fin 8) : HoldsSame s j (s.coding j) (s.job j) := ⟨rfl, rfl⟩

theorem JobStep.holdsSame (became : JobStep (s.passInFlight j) (s.job j) v') :
    HoldsSame s j (s.coding j) v' := by
  have same := became.sameJob
  refine ⟨?_, same.loading⟩
  rw [holds_eq]
  simp only [holdsOf, workOf, same.loading, same.ready, same.withheld]

/-- The context that holds a slot is not FREE (R66, R85). -/
theorem HoldLaw.live (h : HoldLaw s) (flight : FlightLaw (s.passInFlight j) (s.job j))
    (member : State.member s j k = true) : (s.job j).state ≠ .free := by
  intro free
  have idle : s.coding j = none := by
    have off := flight.not_flying (by simp [free, JobState.coding])
    simpa [State.passInFlight] using off
  have held := (h.holds j k).mpr member
  rw [holds_eq, idle, h.free j free] at held
  cases held

/-- A member of the slot a PIXELS frame begins or continues is a target (R88, R89). -/
theorem target_of_member {q : PixelsRequest} (slot : s.intakeSlot q = .ok (k, b))
    (member : JobSet.has b.refs j = true) : Sys2Proof.Machine.targets s q.tag j := by
  obtain ⟨-, -, -, -, continued | begun⟩ := intakeSlot_ok_iff.mp slot
  · exact (continued.2.2 j).mp member
  · obtain ⟨-, -, -, -, -, -, -, refs, -⟩ := begun
    exact (refs j).mp member

/-- A context becomes FREE by taking its FREE values alone (R66). -/
theorem WorkCase.free_job {o : Option (Fin 2 × PassState)} (became : WorkCase s j o v')
    (h : HoldLaw s) (flight : FlightLaw (s.passInFlight j) (s.job j))
    (running : ∀ others, s.candidates = j :: others → (s.job j).state = .running)
    (free : v'.state = .free) : v' = freeJob := by
  have codes {l : Fin 2} {p : PassState} (lane : s.lanes[l] = some p) (job : p.job = j) :
      (s.job j).state ≠ .free := fun free => by
    have coding := (flight.coding (passInFlight_iff.mpr ⟨l, p, lane, job⟩)).1
    simp [free, JobState.coding] at coding
  cases became with
  | step became =>
    rw [h.free j (became.free_iff.mp free)] at became
    exact became.freeJob
  | opened => simp [openedJob_state] at free
  | freed => rfl
  | requeued => simp [Job.requeue] at free
  | resolved w halted withheld =>
    rw [goOn_state] at free
    split_ifs at free
  | loads q k b idle slot data member =>
    exact absurd free (target_of_member slot member).1
  | filled w b writing band complete member =>
    exact absurd free (h.live flight (member_iff.mpr ⟨b, band, member⟩))
  | granted l others k rest lane head =>
    exact absurd ((running others head).symm.trans free) (by decide)
  | wentOn coded job => exact absurd free (codes coded.lane job)
  | halted => simp at free
  | climbed coded job =>
    rw [passResults_state] at free
    exact absurd free (codes coded.lane job)
  | committed =>
    rw [afterCommit_state] at free
    split_ifs at free

/-- The coding bands after an event of the pass a lane runs. -/
theorem LanesApart.coding_own {l : Fin 2} {p : PassState} (apart : LanesApart s)
    (lane : s.lanes[l] = some p) (o : Option PassState) (own : ∀ p' ∈ o, p'.job = p.job)
    (lanes : u.lanes = (s.setLane l o).lanes) (j : Fin 8) :
    u.coding j = if j = p.job then o.map (l, ·) else s.coding j := by
  rw [coding_of_lanes lanes]
  cases o with
  | none => exact apart.coding_setLane_none lane j
  | some p' =>
    refine apart.coding_setLane_some (own p' rfl) ?_ (by simp [lane]) j
    exact fun l' p' lane' same => apart.eq_of_job lane' lane same

theorem holdsSame_requeue {w : Withheld} {next : Pass} {index budget : Nat}
    (idle : s.coding j = none) (withheld : (s.job j).withheld = some w) :
    HoldsSame s j (s.coding j)
      ({ s.job j with index := index, budget := budget }.requeue w next) :=
  ⟨by simp [holds_eq, holdsOf, workOf, idle, withheld, Job.requeue], by simp [Job.requeue]⟩

theorem holdsSame_granted {l : Fin 2} {band index : Nat} {next : Pass} {rest : List (Fin 24)}
    (idle : s.coding j = none) (bare : (s.job j).withheld = none)
    (ready : (s.job j).ready = k :: rest) :
    HoldsSame s j (some (l, beginPass j k band next index)) ((s.job j).granted rest) :=
  ⟨by simp [holds_eq, holdsOf, workOf, idle, bare, ready, Job.granted, beginPass], rfl⟩

/-- A pass that goes on, and one that climbs the ladder, keeps its slot. -/
theorem holdsSame_coding {l : Fin 2} {p p' : PassState} (coding : s.coding j = some (l, p))
    (slot : p'.slot = p.slot) (loading : v'.loading = (s.job j).loading)
    (ready : v'.ready = (s.job j).ready) : HoldsSame s j (some (l, p')) v' :=
  ⟨by simp only [holds_eq, holdsOf, workOf, coding, slot, loading, ready], loading⟩

theorem holdsSame_halted {l : Fin 2} {p p' : PassState} (coding : s.coding j = some (l, p))
    (slot : p'.slot = p.slot) (loading : v'.loading = (s.job j).loading)
    (ready : v'.ready = (s.job j).ready) : HoldsSame s j none (haltedJob v' p') :=
  ⟨by simp [holds_eq, holdsOf, workOf, coding, slot, loading, ready, withheldOf],
    by simpa using loading⟩

/-- The slots held after an event that leaves every context its slots. -/
theorem HoldLaw.of_holdsSame (h : HoldLaw s) (slots : u.slots = s.slots)
    (writing : u.writing = s.writing)
    (free : ∀ j, (u.job j).state = .free → u.job j = freeJob)
    (kept : ∀ j, HoldsSame s j (u.coding j) (u.job j)) : HoldLaw u := by
  refine h.of_same slots free (fun j => (kept j).holds) (fun j => (kept j).loading) ?_
  rw [writing, slots]
  exact h.writing

/-- A job leaves the slot of its coding band or withheld band at a commit (R109). -/
theorem HoldLaw.of_committed (h : HoldLaw s) (work : s.workSlot i = some k)
    (free : ∀ j, (u.job j).state = .free → u.job j = freeJob)
    (slots : ∀ k' : Fin 24, u.slots[k'] = if k' = k then leaveSlot i s.slots[k'] else s.slots[k'])
    (coding : ∀ j, u.coding j = if j = i then none else s.coding j)
    (job : ∀ j, u.job j = if j = i then v' else s.job j)
    (bare : v'.withheld = none) (loading : v'.loading = (s.job i).loading)
    (ready : v'.ready = (s.job i).ready) (writing : u.writing = s.writing) : HoldLaw u := by
  have held : k ∈ s.holds i := by simp [State.holds, work]
  have unloaded : (s.job i).loading ≠ some k := fun loads => by
    have nodup := h.nodup i
    simp [State.holds, work, loads] at nodup
  have mine : u.holds i = (s.job i).loading.toList ++ (s.job i).ready := by
    simp [holds_eq, holdsOf, workOf, coding, job, bare, loading, ready]
  refine h.of_left (i := i) [k] free (fun k' => ?_) ?_ ?_ ?_ (fun j apart => ?_) ?_
  · simp [slots]
  · rw [mine, State.holds, work]
    simp
  · simp [job, loading]
  · simp +contextual [job, loading]
  · simp [holds_eq, coding, job, apart]
  · rw [writing]
    refine fun w hw => ⟨hw, ?_⟩
    simp only [List.mem_singleton]
    rintro rfl
    obtain ⟨b, band, member⟩ := member_iff.mp ((h.holds i w.slot).mp held)
    have filling := h.writing w hw
    rw [band] at filling
    exact unloaded ((h.filling i w.slot b band member).mp (by simpa using filling))

/-- An aborted or closed job leaves every slot (R76, R78). -/
theorem HoldLaw.of_freed (h : HoldLaw s) (apart : LanesApart s) (becomes : SameCore (s.freeContext i) u)
    (free : ∀ j, (u.job j).state = .free → u.job j = freeJob) (idle : s.writing = none) :
    HoldLaw u := by
  have job (j : Fin 8) : u.job j = if j = i then freeJob else s.job j := by
    rw [becomes.job, job_freeContext]
  have coding (j : Fin 8) : u.coding j = if j = i then none else s.coding j := by
    rw [becomes.coding, apart.coding_freeContext]
  refine h.of_left (i := i) (s.holds i) free (fun k => ?_) ?_ ?_ ?_ (fun j other => ?_) ?_
  · rw [becomes.slot, slots_freeContext]
    split_ifs with held
    · rfl
    · refine leaveSlot_of_not_member (Bool.eq_false_iff.mpr fun member => held ?_)
      exact (h.holds i k).mpr member
  · simp [holds_eq u, holdsOf, workOf, coding, job, freeJob]
  · simp [job, freeJob]
  · intro k loads left
    exact absurd (by simp [State.holds, loads]) left
  · simp [holds_eq, coding, job, other]
  · have off : u.writing = none := becomes.writing.trans (by
      rw [← idle, State.writing, freeContext_inHand, State.writing])
    simp [off]

/-- A PIXELS frame is accepted (R88, R89). -/
theorem HoldLaw.of_loads {f : Frame} {q : PixelsRequest} (h : HoldLaw s)
    (slot : s.intakeSlot q = .ok (k, b)) (becomes : SameCore (s.beginWrite f q k b) u)
    (free : ∀ j, (u.job j).state = .free → u.job j = freeJob) : HoldLaw u := by
  have job (j : Fin 8) : u.job j =
      if JobSet.has b.refs j then { s.job j with loading := some k } else s.job j := by
    rw [becomes.job, job_beginWrite]
  have coding (j : Fin 8) : u.coding j = s.coding j := coding_of_lanes becomes.lanes j
  have slots (i : Fin 24) : u.slots[i] = if i = k then some b else s.slots[i] := by
    rw [becomes.slot, slots_beginWrite]
  have writing : ∀ w ∈ u.writing, w.slot = k := by
    rw [becomes.writing]
    rintro _ ⟨⟩
    rfl
  obtain ⟨-, -, ⟨first, target⟩, -, continued | begun⟩ := intakeSlot_ok_iff.mp slot
  · obtain ⟨band, loading, refs⟩ := continued
    have member (j : Fin 8) : JobSet.has b.refs j = true → (s.job j).loading = some k :=
      fun has => loading j ((refs j).mp has)
    have same (j : Fin 8) : u.job j = s.job j := by
      rw [job]
      split_ifs with has
      · rw [← member j has]
      · rfl
    have slots' : u.slots = s.slots := by
      refine Vector.ext fun i inside => ?_
      have at_ := slots ⟨i, inside⟩
      split_ifs at at_ with here
      · rw [← band, ← here] at at_
        exact at_
      · exact at_
    refine h.of_same slots' free (fun j => ?_) (fun j => by rw [same]) fun w hw => ?_
    · rw [holds_eq, coding, same, holds_eq]
    · have has := (refs first).mpr target
      have filling := (h.filling first k b band has).mpr (member first has)
      obtain rfl := writing w hw
      simp [slots', band, filling]
  · obtain ⟨unheld, fresh, -, full, -, -, -, refs, -⟩ := begun
    refine h.of_begun free fresh (by rw [slots, if_pos rfl]) full ?_
      (fun i other => by rw [slots, if_neg other]) (fun j has => ?_) (fun j has => ?_) writing
    · intro empty
      have none_ := jobSet_eq_zero.mp empty first
      exact absurd ((refs first).mpr target) (Bool.eq_false_iff.mp none_)
    · have unloaded := (unheld j ((refs j).mp has)).1
      refine ⟨unloaded, ?_, by simp [job, has]⟩
      simp [holds_eq, holdsOf, workOf, coding, job, has, unloaded]
    · simp [holds_eq, coding, job, has]

/-- A write completes, and its slot with it or not (R92, R94). -/
theorem HoldLaw.of_writeDone {w : PixelWrite} (h : HoldLaw s) (inHand : s.inHand = .pixels w)
    (becomes : SameCore (State.writeDone s w) u)
    (free : ∀ j, (u.job j).state = .free → u.job j = freeJob) : HoldLaw u := by
  have idle : u.writing = none :=
    becomes.writing.trans (by rw [State.writing, (writeDone_table s w).2.2.2.2])
  have coding (j : Fin 8) : u.coding j = s.coding j :=
    coding_of_lanes (becomes.lanes.trans (lanes_writeDone w)) j
  have writing := h.writing w (by simp [State.writing, inHand])
  obtain ⟨b, band⟩ : ∃ b, s.slots[w.slot] = some b := by
    rw [← Option.isSome_iff_exists]
    cases band : s.slots[w.slot] with
    | none => simp [band] at writing
    | some b => rfl
  have unfilled : b.full = false := by simpa [band] using writing
  have done : State.writeDone s w =
      { s.storeWritten w.slot (b.withPixels w.row w.pixels) with inHand := .nothing } := by
    unfold State.writeDone
    simp only [band]
  have job (j : Fin 8) : u.job j =
      if (b.withPixels w.row w.pixels).allComplete = true ∧ JobSet.has b.refs j = true then
        (s.job j).bandLoaded w.slot
      else s.job j := by
    rw [becomes.job, done]
    exact job_storeWritten s j w.slot (b.withPixels w.row w.pixels)
  have slots (i : Fin 24) : u.slots[i] = if i = w.slot then
      some { b.withPixels w.row w.pixels with
        full := (b.withPixels w.row w.pixels).allComplete } else s.slots[i] := by
    have kept : (b.withPixels w.row w.pixels).full = false := unfilled
    rw [becomes.slot, done]
    refine (slots_storeWritten s w.slot (b.withPixels w.row w.pixels) i).trans ?_
    rw [kept, Bool.false_or]
  have member (j : Fin 8) (has : JobSet.has b.refs j = true) : (s.job j).loading = some w.slot :=
    (h.filling j w.slot b band has).mp unfilled
  refine h.of_written free band ((slots w.slot).trans (if_pos rfl)) rfl
    (fun i other => by rw [slots, if_neg other]) (fun j => ?_) (fun j has => ?_)
    (fun j i other => ?_) idle
  · rw [holds_eq, coding, job, holds_eq]
    split_ifs with filled
    · simp only [holdsOf, workOf, Job.bandLoaded, member j filled.2, Option.toList_none,
        Option.toList_some, List.nil_append, ← List.append_assoc]
      exact List.perm_append_singleton ..
    · exact .refl _
  · rw [job]
    split_ifs with filled
    · simp [filled.1, Job.bandLoaded]
    · have incomplete : (b.withPixels w.row w.pixels).allComplete = false := by
        simpa [has] using filled
      simp [incomplete, member j has]
  · rw [job]
    split_ifs with filled
    · simp [Job.bandLoaded, member j filled.2, Ne.symm other]
    · rfl

theorem reset_holdLaw : HoldLaw State.reset := by
  have none_ (k : Fin 24) : State.reset.slots[k] = none := by
    revert k
    decide
  have bare (j : Fin 8) : State.reset.holds j = [] := by
    revert j
    decide
  refine ⟨fun j _ => reset_job j, fun j => by simp [bare], fun j k => ?_, fun k => ?_,
    fun j k => ?_, ?_⟩
  · simp [bare, State.member, none_]
  · simp [none_]
  · simp [none_]
  · exact fun _ => nofun

theorem HoldLaw.of_sameCore (h : HoldLaw v) (becomes : SameCore v u) : HoldLaw u :=
  h.of_holdsSame becomes.slots becomes.writing
    (fun j => by
      rw [becomes.job]
      exact h.free j)
    (fun j => by
      rw [becomes.job, becomes.coding]
      exact .refl v j)

theorem CoreCase.holdLaw (core : CoreCase s u) (h : HoldLaw s) (candidates : CandidateInv s)
    (lanes : LaneInv s) : HoldLaw u := by
  obtain ⟨apart, flights⟩ := (laneInv_iff s).mp lanes
  have free (j : Fin 8) : (u.job j).state = .free → u.job j = freeJob :=
    (core.workCase apart (head_idle candidates) j).free_job h (flights j) fun others =>
      head_running candidates
  have halts {j : Fin 8} (halted : (s.job j).state = .halted) : s.coding j = none := by
    simpa [State.passInFlight] using (flights j).not_flying (by simp [halted, JobState.coding])
  cases core with
  | jobs slots lanes candidates records writing became =>
    refine h.of_holdsSame slots writing free fun j => ?_
    rw [coding_of_lanes lanes]
    exact (became j).holdsSame
  | opened i k p r was ready inRange reloads taken becomes =>
    refine h.of_holdsSame becomes.slots becomes.writing free fun j => ?_
    rw [becomes.job, job_setJob, coding_of_lanes (v := s) becomes.lanes]
    split_ifs with here
    · subst here
      have values := h.free j was
      exact ⟨by rw [holds_eq, values]; simp [holdsOf, workOf, openedJob],
        by rw [values]; simp [openedJob]⟩
    · exact .refl s j
  | freed i off becomes => exact h.of_freed apart becomes free off
  | resolved i w c halted withheld source becomes =>
    have slot : c.slot = w.slot := by
      obtain rfl | rfl := source <;> rfl
    have idle := halts halted
    refine h.of_committed (i := i) (k := w.slot) (by simp [workSlot_eq, workOf, idle, withheld]) free
      (fun k => ?_) (fun j => ?_) (fun j => ?_) ?_ ?_ ?_ becomes.writing
      (v' := Job.goOn { bankedJob (s.job i) with withheld := none })
    · have slots : (s.commitWithheld i c).slots[k] = (s.commit i c).slots[k] := rfl
      rw [becomes.slot, slots, slots_commit, slot]
    · rw [coding_of_lanes (v := s) becomes.lanes]
      split_ifs with here
      · rw [here, idle]
      · rfl
    · rw [becomes.job, job_commitWithheld]
    · simp
    · simp
    · simp
  | requeued i w next index budget halted withheld indexed budgeted becomes =>
    refine h.of_holdsSame becomes.slots becomes.writing free fun j => ?_
    rw [becomes.job, job_setJob, coding_of_lanes (v := s) becomes.lanes]
    split_ifs with here
    · subst here
      exact holdsSame_requeue (halts halted) withheld
    · exact .refl s j
  | writeBegun f q k b idle slot data becomes => exact h.of_loads slot becomes free
  | writeDone w writing becomes => exact h.of_writeDone writing becomes free
  | sent n becomes =>
    refine h.of_holdsSame becomes.slots becomes.writing free fun j => ?_
    rw [coding_of_lanes (v := s) becomes.lanes, becomes.job j]
    exact .refl s j
  | granted l i others k rest lane head ready room becomes =>
    have off := head_idle candidates i others head
    have bare := (flights i).bare (by simp [head_running candidates head])
    refine h.of_holdsSame (by rw [becomes]; rfl) (by rw [becomes]; rfl) free fun j => ?_
    have lanes : u.lanes = (s.setLane l
        (some (beginPass i k (s.bandIn k) (s.job i).nextPass (s.job i).index))).lanes := by
      rw [becomes]
      rfl
    rw [coding_of_lanes lanes, apart.coding_setLane_some (i := i) rfl, becomes, job_grantTo]
    · split_ifs with here
      · subst here
        exact holdsSame_granted (by simpa [State.passInFlight] using off) bare ready
      · exact .refl s j
    · intro l' p' lane' job
      simp [passInFlight_iff.mpr ⟨l', p', lane', job⟩] at off
    · simp [lane]
  | @wentOn l p b q r c coded coding fits more becomes =>
    have run : SameRun p c.pass := coding ▸ columnCoded_sameRun s p q b r
    refine h.of_holdsSame (by rw [becomes]; rfl) (by rw [becomes]; rfl) free fun j => ?_
    rw [apart.coding_own coded.lane (some { c.pass with column := c.pass.column + 1 })
      (by simp [run.job]) (by rw [becomes]; rfl), becomes, job_nextColumn, run.job]
    split_ifs with here
    · subst here
      exact holdsSame_coding (apart.coding_eq coded.lane) run.slot rfl rfl
    · exact .refl s j
  | @halted l p b q r c d coded coding ends ended becomes =>
    have run := coded_sameRun coded coding ended
    refine h.of_holdsSame (by rw [becomes]; rfl) (by rw [becomes]; rfl) free fun j => ?_
    rw [apart.coding_own coded.lane none (by simp) (by rw [becomes]; rfl), becomes, job_haltPass,
      job_passEnded, run.job]
    split_ifs with here
    · subst here
      exact holdsSame_halted (apart.coding_eq coded.lane) run.slot (by simp) (by simp)
    · exact .refl s j
  | @climbed l p b q r c d coded coding ended becomes =>
    have run := coded_sameRun coded coding ended
    refine h.of_holdsSame (by rw [becomes]; rfl) (by rw [becomes]; rfl) free fun j => ?_
    rw [apart.coding_own coded.lane (some (beginPass d.pass.job d.pass.slot d.pass.band
        d.pass.pass.ladder (ladderIndex d.pass.pass.ladder
          ((State.passEnded s d).job d.pass.job).index)))
      (by rintro _ ⟨⟩; exact run.job) (by rw [becomes]; rfl), becomes, job_climb, job_passEnded s j d,
      run.job]
    split_ifs with here
    · subst here
      exact holdsSame_coding (apart.coding_eq coded.lane) run.slot (by simp) (by simp)
    · exact .refl s j
  | @committed l p b q r c d coded coding ended becomes =>
    have run := coded_sameRun coded coding ended
    refine h.of_committed (i := p.job) (k := p.slot)
      (by simp [workSlot_eq, workOf, apart.coding_eq coded.lane]) free (fun k => ?_)
      (fun j => apart.coding_own coded.lane none (by simp) (by rw [becomes]; rfl) j)
      (fun j => ?_) ?_ ?_ ?_ (by rw [becomes]; rfl)
      (v' := (bankedJob ((s.job p.job).passResults d)).afterCommit)
    · have slots : u.slots[k] =
          ((State.passEnded s d).commit d.pass.job (passSource d)).slots[k] := by
        rw [becomes]
        rfl
      rw [slots, slots_commit, run.job]
      change (if k = d.pass.slot then _ else _) = _
      rw [run.slot]
      rfl
    · rw [becomes, job_commitPass, job_passEnded, run.job]
      split_ifs with here
      · rw [here]
      · rfl
    · have flies := passInFlight_iff.mpr ⟨l, p, coded.lane, rfl⟩
      simpa using ((flights p.job).coding flies).2
    · simp
    · simp
  | reset becomes => exact reset_holdLaw.of_sameCore becomes

/-- What settles leaves what the contexts hold. -/
theorem HoldLaw.settle (h : HoldLaw u) (settles : Settles s u t) : HoldLaw t := by
  obtain ⟨slots, writing⟩ := settles.slots
  refine h.of_holdsSame slots writing (fun j free => ?_) fun j => ?_
  · obtain same | noticed := settles.job j
    · rw [same] at free ⊢
      exact h.free j free
    · rw [noticed] at free ⊢
      rw [h.free j free]
      rfl
  · rw [settles.coding]
    obtain same | noticed := settles.job j
    · rw [same]
      exact .refl u j
    · rw [noticed]
      exact ⟨rfl, rfl⟩

end

/-- Settles O55: a job's slots are those of its four parts, and every event moves one slot from part to
part, or takes a job from a slot's reference set with the slot from its parts. -/
theorem referenceSetsKept : Obligations.ReferenceSetsKept := by
  intro s t candidates lanes inv stepped
  rw [holdInv_iff] at inv ⊢
  obtain ⟨pending, inbound, u, core, settles⟩ := step_core stepped
  have inv' : HoldLaw { s with pending := pending, inbound := inbound } :=
    ⟨inv.free, inv.nodup, inv.holds, inv.refs, inv.filling, inv.writing⟩
  exact (core.holdLaw inv' candidates lanes).settle settles

end Sys2Proof.Laws
end

/-! ## Cursors (O57) -/

section
namespace Sys2Proof.Laws
open Sys2Proof.Machine

/-- The cursor law of one context with its coding band, by the bands the slots hold (R64, R75). -/
structure CursorLaw (bandIn : Fin 24 → Nat) (o : Option (Fin 2 × PassState)) (v : Job) : Prop where
  ordered : v.emitted ≤ v.loaded
  inside : v.loaded ≤ v.bands
  ahead : v.loaded ≤ v.emitted + 4
  queue : ((workOf o v).toList ++ v.ready).map bandIn = List.range' v.emitted (v.loaded - v.emitted)
  loading : ∀ k ∈ v.loading, bandIn k = v.loaded ∧ v.loaded < v.bands ∧ v.loaded ≤ v.emitted + 3
  coding : ∀ c ∈ o, c.2.band = bandIn c.2.slot
  withheld : ∀ w ∈ v.withheld, w.band = bandIn w.slot
  done : v.state = .done → v.emitted = v.bands

theorem cursorInv_iff (s : State) :
    CursorInv s ↔ ∀ j, CursorLaw s.bandIn (s.coding j) (s.job j) :=
  forall_congr' fun _ =>
    ⟨fun ⟨⟨ordered, inside⟩, ahead, queue, loading, coding, withheld, done⟩ =>
      ⟨ordered, inside, ahead, queue, loading, coding, withheld, done⟩,
    fun h => ⟨⟨h.ordered, h.inside⟩, h.ahead, h.queue, h.loading, h.coding, h.withheld, h.done⟩⟩

section
variable {s u t : State} {j : Fin 8} {k : Fin 24} {v v' : Job} {o o' : Option (Fin 2 × PassState)}
  {bandIn bandIn' : Fin 24 → Nat}

/-- The law speaks of the bands of the slots held alone. -/
theorem CursorLaw.congr (h : CursorLaw bandIn o v) (flight : FlightLaw o.isSome v)
    (kept : ∀ k ∈ holdsOf o v, bandIn' k = bandIn k) : CursorLaw bandIn' o v := by
  have inWork (k : Fin 24) (mem : k ∈ (workOf o v).toList ++ v.ready) : bandIn' k = bandIn k :=
    kept k (by rw [holdsOf, List.append_assoc]; exact List.mem_append_right _ mem)
  refine ⟨h.ordered, h.inside, h.ahead, ?_, fun k mem => ?_, fun c mem => ?_, fun w mem => ?_,
    h.done⟩
  · rw [← h.queue]
    exact List.map_congr_left inWork
  · rw [kept k (by simp [holdsOf, Option.mem_def.mp mem])]
    exact h.loading k mem
  · rw [inWork c.2.slot (by simp [workOf, Option.mem_def.mp mem])]
    exact h.coding c mem
  · have idle : o = none := by
      cases o with
      | none => rfl
      | some c =>
        have bare := (flight.coding rfl).2
        rw [bare] at mem
        cases mem
    rw [inWork w.slot (by simp [workOf, idle, Option.mem_def.mp mem])]
    exact h.withheld w mem

/-- The same slots are held in the same order, under the same cursors. -/
theorem CursorLaw.of_same (h : CursorLaw bandIn o v)
    (work : (workOf o' v').toList ++ v'.ready = (workOf o v).toList ++ v.ready)
    (loading : v'.loading = v.loading)
    (emitted : v'.emitted = v.emitted) (loaded : v'.loaded = v.loaded) (bands : v'.bands = v.bands)
    (coding : ∀ c ∈ o', c.2.band = bandIn c.2.slot)
    (withheld : ∀ w ∈ v'.withheld, w.band = bandIn w.slot)
    (done : v'.state = .done → v.emitted = v.bands) : CursorLaw bandIn o' v' := by
  refine ⟨?_, ?_, ?_, ?_, ?_, coding, withheld, ?_⟩
  · rw [emitted, loaded]
    exact h.ordered
  · rw [loaded, bands]
    exact h.inside
  · rw [emitted, loaded]
    exact h.ahead
  · rw [work, emitted, loaded]
    exact h.queue
  · rw [loading, loaded, bands, emitted]
    exact h.loading
  · rw [emitted, bands]
    exact done

/-- A step of a context alone leaves its cursors. -/
theorem CursorLaw.of_sameJob (h : CursorLaw bandIn o v) (same : SameJob v v')
    (done : v'.state = .done → v.emitted = v.bands) : CursorLaw bandIn o v' :=
  h.of_same (by rw [same.ready]; simp only [workOf, same.withheld]) same.loading same.emitted
    same.loaded same.bands h.coding (by rw [same.withheld]; exact h.withheld) done

/-- The band in work is committed, and E rises over it (R109). -/
theorem CursorLaw.banked (h : CursorLaw bandIn o v) (work : workOf o v = some k)
    (loading : v'.loading = v.loading) (ready : v'.ready = v.ready) (bare : v'.withheld = none)
    (emitted : v'.emitted = v.emitted + 1) (loaded : v'.loaded = v.loaded)
    (bands : v'.bands = v.bands) (done : v'.state = .done → v'.emitted = v'.bands) :
    CursorLaw bandIn none v' := by
  have queue := h.queue
  rw [work] at queue
  obtain ⟨rest, left⟩ : ∃ rest, v.loaded - v.emitted = rest + 1 := by
    refine Nat.exists_eq_succ_of_ne_zero fun none_ => ?_
    rw [none_] at queue
    cases queue
  rw [left, List.range'_succ] at queue
  obtain ⟨-, queue⟩ := List.cons.inj queue
  have ordered := h.ordered
  have inside := h.inside
  have ahead := h.ahead
  refine ⟨?_, ?_, ?_, ?_, ?_, by simp, by simp [bare], done⟩
  · omega
  · omega
  · omega
  · have rest' : v'.loaded - v'.emitted = rest := by omega
    rw [rest', emitted, ready]
    simpa [workOf, bare] using queue
  · rw [loading]
    intro k mem
    obtain ⟨band, more, room⟩ := h.loading k mem
    rw [loaded, bands]
    exact ⟨band, more, by omega⟩

/-- The loading slot is FULL, and L rises over its band (R94). -/
theorem CursorLaw.filled (h : CursorLaw bandIn o v) (loading : v.loading = some k) :
    CursorLaw bandIn o (v.bandLoaded k) := by
  obtain ⟨band, more, room⟩ := h.loading k loading
  have ordered := h.ordered
  have count : v.loaded + 1 - v.emitted = (v.loaded - v.emitted) + 1 := by omega
  have last : v.emitted + (v.loaded - v.emitted) = bandIn k := by omega
  refine ⟨?_, more, ?_, ?_, nofun, h.coding, h.withheld, h.done⟩
  · simp only [Job.bandLoaded]
    omega
  · simp only [Job.bandLoaded]
    omega
  · have queue := h.queue
    simp only [Job.bandLoaded, count, List.range'_concat, Nat.one_mul, last]
    rw [← queue, ← List.append_assoc, List.map_append]
    rfl

/-- The band each slot of a job holds; of a slot that is not the job's, the band the job expects. -/
def bandOf (s : State) (j : Fin 8) (k : Fin 24) : Nat :=
  if k ∈ s.holds j then s.bandIn k else (s.job j).loaded

theorem bandOf_of_held (held : k ∈ s.holds j) : bandOf s j k = s.bandIn k := if_pos held

theorem bandOf_of_unheld (unheld : k ∉ s.holds j) : bandOf s j k = (s.job j).loaded :=
  if_neg unheld

theorem WorkCase.cursorLaw (became : WorkCase s j o v)
    (law : CursorLaw (bandOf s j) (s.coding j) (s.job j)) (h : HoldLaw s)
    (flight : FlightLaw (s.passInFlight j) (s.job j))
    (running : ∀ others, s.candidates = j :: others → (s.job j).state = .running)
    (off : ∀ others, s.candidates = j :: others → s.passInFlight j = false)
    (apart : LanesApart s) : CursorLaw (bandOf s j) o v := by
  have halts (halted : (s.job j).state = .halted) : s.coding j = none := by
    simpa [State.passInFlight] using flight.not_flying (by simp [halted, JobState.coding])
  cases became with
  | step became =>
    refine law.of_sameJob became.sameJob fun done => ?_
    have moves := became.stateMove
    generalize v.state = st at moves done
    cases moves with
    | stays => exact law.done done
    | finishes paused last => exact last
    | _ => cases done
  | opened k p r free inRange =>
    have idle : s.coding j = none := by
      simpa [State.passInFlight] using flight.not_flying (by simp [free, JobState.coding])
    have bare := openedJob_withheld k p r
    have zero : (openedJob k p r).loaded = 0 ∧ (openedJob k p r).emitted = 0 ∧
        (openedJob k p r).loading = none ∧ (openedJob k p r).ready = [] := by
      simp [openedJob, freeJob]
    obtain ⟨loaded, emitted, loading, ready⟩ := zero
    exact ⟨by simp [loaded, emitted], by simp [loaded], by simp [loaded],
      by simp [idle, workOf, bare, loaded, emitted, ready], by simp [loading], by simp [idle],
      by simp [bare], by simp [openedJob_state]⟩
  | freed =>
    exact ⟨by simp [freeJob], by simp [freeJob], by simp [freeJob], by simp [freeJob, workOf],
      by simp [freeJob], by simp, by simp [freeJob], by simp [freeJob]⟩
  | requeued w next index budget halted withheld =>
    have idle := halts halted
    exact law.of_same (by simp [workOf, idle, withheld, Job.requeue]) (by simp [Job.requeue])
      (by simp [Job.requeue]) (by simp [Job.requeue]) (by simp [Job.requeue]) (by simp [idle])
      (by simp [Job.requeue]) (by simp [Job.requeue])
  | resolved w halted withheld =>
    have idle := halts halted
    rw [idle] at law ⊢
    refine law.banked (k := w.slot) (by simp [workOf, withheld]) (by simp) (by simp) (by simp)
      (by simp) (by simp) (by simp) ?_
    rw [goOn_state]
    split_ifs with last
    · exact fun _ => by simpa using last
    · exact nofun
  | loads q k b idle slot data member =>
    have target := target_of_member slot member
    obtain ⟨-, -, -, expected, continued | begun⟩ := intakeSlot_ok_iff.mp slot
    · have loading := continued.2.1 j target
      rw [← loading]
      exact law
    · obtain ⟨unheld, fresh, -⟩ := begun
      have band := bandOf_of_unheld (s := s) (j := j) (k := k) fun held => by
        obtain ⟨b, band, -⟩ := member_iff.mp ((h.holds j k).mp held)
        rw [fresh] at band
        cases band
      have ordered := law.ordered
      have credit := (unheld j target).2
      refine ⟨law.ordered, law.inside, law.ahead, law.queue, ?_, law.coding, law.withheld,
        law.done⟩
      rintro _ ⟨⟩
      exact ⟨band, (expected j target).2, by simp only; omega⟩
  | filled w b writing band complete member =>
    have unfilled := h.writing w (by simp [State.writing, writing])
    rw [band] at unfilled
    exact law.filled ((h.filling j w.slot b band member).mp (by simpa using unfilled))
  | granted l others k rest lane head ready room =>
    have bare := flight.bare (by simp [running others head])
    have idle : s.coding j = none := by simpa [State.passInFlight] using off others head
    have held : k ∈ s.holds j := by simp [State.holds, ready]
    refine law.of_same (by simp [workOf, idle, bare, ready, Job.granted, beginPass]) rfl rfl rfl rfl
      ?_ (by simp [Job.granted, bare]) law.done
    rintro _ ⟨⟩
    exact (bandOf_of_held held).symm
  | @wentOn l p b q r c coded job coding fits more =>
    have run : SameRun p c.pass := coding ▸ columnCoded_sameRun s p q b r
    have here : s.coding j = some (l, p) := job ▸ apart.coding_eq coded.lane
    refine law.of_same (by simp only [workOf, here, run.slot]) rfl rfl rfl rfl ?_ law.withheld
      law.done
    rintro _ ⟨⟩
    have band := law.coding (l, p) here
    simpa only [run.band, run.slot] using band
  | @halted l p b q r c d coded job coding ends ended =>
    have run := coded_sameRun coded coding ended
    have here : s.coding j = some (l, p) := job ▸ apart.coding_eq coded.lane
    refine law.of_same (by simp [workOf, here, run.slot, withheldOf]) (by simp) (by simp) (by simp)
      (by simp) (by simp) ?_ (by simp)
    rw [haltedJob_withheld]
    rintro _ ⟨⟩
    have band := law.coding (l, p) here
    simpa only [withheldOf, run.band, run.slot] using band
  | @climbed l p b q r c d coded job coding ended =>
    have here : s.coding j = some (l, p) := job ▸ apart.coding_eq coded.lane
    refine law.of_same (by simp [workOf, here, beginPass]) (by simp) (by simp) (by simp) (by simp)
      ?_ (by simpa using law.withheld) (by simpa using law.done)
    rintro _ ⟨⟩
    exact law.coding (l, p) here
  | @committed l p b q r c d coded job coding ended =>
    have here : s.coding j = some (l, p) := job ▸ apart.coding_eq coded.lane
    have flies : s.passInFlight j = true := passInFlight_iff.mpr ⟨l, p, coded.lane, job⟩
    refine law.banked (k := p.slot) (by simp [workOf, here]) (by simp) (by simp)
      (by simpa using (flight.coding flies).2) (by simp) (by simp) (by simp) ?_
    rw [afterCommit_state]
    split_ifs with paused last
    · exact nofun
    · exact fun _ => by simpa using last
    · exact nofun

/-! ### The bands of the slots held, after an event -/

/-- A job's slot holds the band it held; a slot newly taken holds the band the job expects (R89). -/
theorem SlotCase.band (became : SlotCase s k u.slots[k]) (member : State.member u j k = true)
    (h : HoldLaw s) : u.bandIn k = bandOf s j k := by
  obtain ⟨b', band', has⟩ := member_iff.mp member
  have now : u.bandIn k = b'.band := by simp only [State.bandIn, band']
  rw [now]
  have was {b : BandSlot} (band : s.slots[k] = some b) (refs : JobSet.has b.refs j = true) :
      bandOf s j k = b.band := by
    rw [bandOf_of_held ((h.holds j k).mpr (member_iff.mpr ⟨b, band, refs⟩))]
    simp only [State.bandIn, band]
  rw [band'] at became
  generalize became' : some b' = o at became
  cases became with
  | stays => exact (was became'.symm has).symm
  | frees => cases became'
  | left i =>
    obtain ⟨b, refs, band, rfl⟩ := leaveSlot_some became'.symm
    have members := leaveSlot_member s.slots[k] i j
    rw [← became', band, Option.any_some, Option.any_some, has] at members
    exact (was band (Bool.and_eq_true_iff.mp members.symm).1).symm
  | begun q b idle slot data =>
    cases became'
    have target := target_of_member slot has
    obtain ⟨-, -, -, expected, continued | begun⟩ := intakeSlot_ok_iff.mp slot
    · exact (was continued.1 has).symm
    · obtain ⟨-, fresh, -, -, -, band, -⟩ := begun
      rw [bandOf_of_unheld fun held => by
        obtain ⟨b, band, -⟩ := member_iff.mp ((h.holds j k).mp held)
        rw [fresh] at band
        cases band]
      exact band.trans (expected j target).1.symm
  | filled w b writing here band complete =>
    cases became'
    exact (was band has).symm
  | written w b writing here band incomplete =>
    cases became'
    exact (was band has).symm

theorem CoreCase.cursorLaw (core : CoreCase s u) (candidates : CandidateInv s) (lanes : LaneInv s)
    (h : HoldLaw s) (law : CursorLaw s.bandIn (s.coding j) (s.job j)) :
    CursorLaw u.bandIn (u.coding j) (u.job j) := by
  obtain ⟨apart, flights⟩ := (laneInv_iff s).mp lanes
  have running (others : List (Fin 8)) (head : s.candidates = j :: others) :=
    head_running candidates head
  have work := core.workCase apart (head_idle candidates) j
  have law' : CursorLaw (bandOf s j) (s.coding j) (s.job j) :=
    law.congr (flights j) fun k held => bandOf_of_held held
  refine (work.cursorLaw law' h (flights j) running (head_idle candidates j) apart).congr
    (work.flightLaw running (flights j)) fun k held => ?_
  have member := ((core.holdLaw h candidates lanes).holds j k).mp held
  exact (core.slotCase k).band member h

end

/-- Settles O57: a band moves from the loading slot to the ready queue as L rises, on to the pass, and
leaves the slots as E rises. -/
theorem cursorsKept : Obligations.CursorsKept := by
  intro s t candidates lanes holds inv stepped
  rw [cursorInv_iff] at inv ⊢
  obtain ⟨pending, inbound, u, core, settles⟩ := step_core stepped
  intro j
  have law : CursorLaw u.bandIn (u.coding j) (u.job j) :=
    core.cursorLaw candidates lanes ((holdInv_iff _).mp holds) (inv j)
  have bands : t.bandIn = u.bandIn := by
    funext k
    rw [State.bandIn, settles.slots.1, State.bandIn]
  rw [settles.coding, bands]
  obtain same | noticed := settles.job j
  · exact same ▸ law
  · rw [noticed]
    exact law.of_same rfl rfl rfl rfl rfl law.coding law.withheld law.done

end Sys2Proof.Laws
end

/-! ## Steps, the queue, and the idle step (O1, O2, O3) -/

section
namespace Sys2Proof.Laws
open Sys2Proof.Machine

/-- Settles O1. -/
theorem stepTakesFront : Obligations.StepTakesFront := by
  intro c rest s front
  unfold step
  rw [front]

section
variable {s u v : State}

theorem Effect.pending (effect : Effect s v) : v.pending = s.pending := by
  cases effect with
  | freed j => exact freeContext_pending s j
  | _ => rfl

theorem writeDone_pending (s : State) (w : PixelWrite) :
    (State.writeDone s w).pending = s.pending := by
  unfold State.writeDone
  split
  · unfold State.storeWritten
    split <;> simp
  · rfl

theorem loadNext_pending (s : State) (k : Fin 8) : (s.loadNext k).pending = s.pending := by
  unfold State.loadNext
  split <;> rfl

theorem loadRead_pending (s : State) (l : StartupLoad) (passes : Bool) :
    (s.loadRead l passes).pending = s.pending := by
  unfold State.loadRead
  split
  · exact loadNext_pending ..
  · exact loadNext_pending ..
  · split_ifs
    · rfl
    · exact loadNext_pending ..

theorem recallRead_pending (s : State) (k : Fin 8) (attempts : Nat) (passes : Bool) :
    (s.recallRead k attempts passes).pending = s.pending := by
  unfold State.recallRead
  split
  · rfl
  · rfl
  · split_ifs <;> rfl

theorem goodFrame_pending (s : State) (f : Frame) (noisy : Bool) :
    (s.goodFrame f noisy).pending = s.pending := by
  unfold State.goodFrame
  split <;> rfl

theorem badFrame_pending (s : State) : s.badFrame.pending = s.pending := by
  unfold State.badFrame State.linkIncrement
  split_ifs
  · rfl
  · rfl
  · rfl

theorem Event.pending (h : Event s u) : u.pending = s.pending := by
  cases h with
  | answered ready head answers =>
    obtain ⟨v, code, data, effect, rfl⟩ := answers
    exact effect.pending
  | writeBegun q k b => simp [State.beginWrite]
  | writeDone w => exact writeDone_pending s w
  | loaded load passes => exact loadRead_pending s load passes
  | recalled k attempts passes => exact recallRead_pending s k attempts passes
  | saveEnded w passes r => exact setRecord_pending s _ _
  | reset => exact cutOffWrite_pending s
  | goodFrame f noisy => exact goodFrame_pending _ f noisy
  | badFrame => exact badFrame_pending _
  | _ => rfl

end

/-- Settles O2: no event touches the queue. -/
theorem commandsCompleteAndKeepQueue : Obligations.CommandsCompleteAndKeepQueue := by
  intro c s
  obtain ⟨straps, rfl⟩ | ⟨straps, rfl⟩ | rfl | taken := exec_cases c s
  · exact ⟨_, rfl, rfl⟩
  · refine ⟨_, rfl, ?_⟩
    split <;> rfl
  · refine ⟨_, rfl, ?_⟩
    split
    · exact cutOffWrite_pending s
    · rfl
  · refine ⟨_, taken, ?_⟩
    obtain ⟨powered, u, due, settled⟩ | idle := occur_cases (eventOf c) s
    · rw [settled, settle_pending]
      exact (event_cases powered due).pending
    · rw [idle]

theorem timing_iff (s : State) : s.timing = true ↔ ∃ j, (s.job j).timer.running = true := by
  unfold State.timing
  rw [List.any_eq_true]
  exact ⟨fun ⟨j, _, running⟩ => ⟨j, running⟩, fun ⟨j, running⟩ => ⟨j, mem_all8 j, running⟩⟩

/-- Settles O3: the idle step is the base tick of every timer. -/
theorem idleStepIsBaseTick : Obligations.IdleStepIsBaseTick := by
  intro s idle
  have stepped : step s = .next s.baseTick := by
    unfold step
    rw [idle]
  rw [stepped]
  unfold State.baseTick
  constructor
  · intro powered running
    rw [if_pos (by rw [powered, (timing_iff s).mpr running]; rfl)]
    refine ⟨_, rfl, rfl, fun j => ?_⟩
    rw [job_mapJobs, baseTick_eq]
  · intro stopped
    rw [if_neg]
    rw [Bool.and_eq_true, timing_iff]
    rintro ⟨powered, j, running⟩
    obtain unpowered | still := stopped
    · rw [unpowered] at powered
      cases powered
    · rw [still j] at running
      cases running

/-! ## Commands that are not due (O4) -/

/-- A row whose event is not due. -/
theorem exec_not_due {c : Instr} {s : State} (row : exec c s = .next (occur (eventOf c) s))
    (h : eventOf c s = none) : exec c s = .next s := by
  rw [row, occur_none h]

theorem takeHead_eq_none {mine : Frame → Bool} {handle : Frame → State → State} {s : State} :
    takeHead mine handle s = none ↔
      s.decoderReady = false ∨ ∀ f rest, s.inbound = f :: rest → mine f = false := by
  rw [Option.eq_none_iff_forall_ne_some]
  simp only [ne_eq, takeHead_eq_some, not_and, not_exists]
  constructor
  · intro h
    cases ready : s.decoderReady with
    | false => exact .inl rfl
    | true =>
      refine .inr fun f rest head => Bool.eq_false_iff.mpr fun mine => ?_
      exact h _ ready f rest head mine rfl
  · rintro (unready | others) u ready f rest head mine
    · rw [unready] at ready
      cases ready
    · rw [others f rest head] at mine
      cases mine

/-- The row of a request takes frames of its kind alone (R159, R169). -/
theorem requestKind_row {c : Instr} {k : Byte} (kind : requestKind c = some k) :
    ∃ mine handle, eventOf c = takeHead mine handle ∧ (∀ f, mine f = true → f.kind = k) ∧
      ∀ s, exec c s = .next (occur (eventOf c) s) := by
  have byKind (k : Byte) (f : Frame) (mine : isKind k f = true) : f.kind = k := by
    simpa [isKind] using mine
  have byAction (a : Nat) (f : Frame) (mine : isResolve a f = true) : f.kind = 0x24 := by
    simp only [isResolve, Bool.and_eq_true, beq_iff_eq] at mine
    exact mine.1
  cases c <;> cases kind
  case accept => exact ⟨_, _, rfl, byAction _, fun _ => rfl⟩
  case retry => exact ⟨_, _, rfl, byAction _, fun _ => rfl⟩
  case degrade => exact ⟨_, _, rfl, byAction _, fun _ => rfl⟩
  case drop => exact ⟨_, _, rfl, byAction _, fun _ => rfl⟩
  case continueJob => exact ⟨_, _, rfl, byAction _, fun _ => rfl⟩
  all_goals exact ⟨_, _, rfl, byKind _, fun _ => rfl⟩

theorem requestKind_known {c : Instr} {k : Byte} (kind : requestKind c = some k) :
    requestKinds.contains k = true := by
  cases c <;> cases kind <;> rfl

/-- The row of an action takes no frame that names another action (R123, log 9). -/
theorem isResolve_eq_false {a : Nat} {f : Frame}
    (other : field f.payload 0 1 ≤ 4 ∧ field f.payload 0 1 ≠ a) : isResolve a f = false := by
  have named : actionNamed f.action = true := decide_eq_true other.1
  have apart : (f.action == a) = false := beq_false_of_ne other.2
  rw [isResolve, named, apart]
  exact Bool.and_false _

theorem unpowered_unchanged {c : Instr} {s : State} (off : s.powered = false)
    (other : ∀ straps, c ≠ .powerOnReset straps) : exec c s = .next s := by
  obtain ⟨straps, rfl⟩ | ⟨straps, rfl⟩ | rfl | taken := exec_cases c s
  · exact absurd rfl (other straps)
  · simp [exec, execPinReset, off]
  · simp [exec, execLossOfPower, off]
  · rw [taken, occur_unpowered _ off]

theorem resolve_unchanged {c : Instr} {a : Nat} (row : (c, a) ∈ resolveRows) {s : State}
    (other : ∀ f rest, s.inbound = f :: rest → field f.payload 0 1 ≤ 4 ∧ field f.payload 0 1 ≠ a) :
    exec c s = .next s := by
  have unmine : ∀ f rest, s.inbound = f :: rest → isResolve a f = false :=
    fun f rest head => isResolve_eq_false (other f rest head)
  simp only [resolveRows, List.mem_cons, Prod.mk.injEq, List.not_mem_nil, or_false] at row
  obtain ⟨rfl, rfl⟩ | ⟨rfl, rfl⟩ | ⟨rfl, rfl⟩ | ⟨rfl, rfl⟩ | ⟨rfl, rfl⟩ := row
  all_goals exact exec_not_due rfl (takeHead_eq_none.mpr (.inr unmine))

/-! ### Events the part is in no position to take -/

section
variable {s : State}

theorem grant_unchanged (h : ∀ j others, s.candidates = j :: others →
    s.freeSpace < (s.job j).budget + 16 ∨ s.lanes[0] ≠ none ∧ s.lanes[1] ≠ none) :
    grantEvent s = none := by
  unfold grantEvent
  split
  · next l j others lane head =>
    obtain small | busy := h j others head
    · split
      · exact if_neg (by omega)
      · rfl
    · have idle := idleLane_eq_some lane
      match l with
      | 0 => exact absurd idle busy.1
      | 1 => exact absurd idle busy.2
  · rfl

theorem columnEvent_idle {l : Fin 2} (idle : s.lanes[l] = none) : columnEventOf l s = none := by
  unfold columnEventOf
  rw [idle]

end

/-- Settles O4. -/
theorem eventsNotDueChangeNothing : Obligations.EventsNotDueChangeNothing := by
  refine ⟨fun c s => unpowered_unchanged, fun c s k kind notHead => ?_, fun s => ⟨fun notHead => ?_,
    fun ⟨c, a⟩ row => resolve_unchanged row⟩, fun s => ?_⟩
  · obtain ⟨mine, handle, event, kinds, row⟩ := requestKind_row kind
    refine exec_not_due (row s) (event ▸ takeHead_eq_none.mpr (notHead.imp_right ?_))
    exact fun other f rest head => Bool.eq_false_iff.mpr fun is_ => other f rest head (kinds f is_)
  · refine exec_not_due rfl ?_
    rw [eventOf, takeHead_eq_none]
    refine notHead.imp_right fun known f rest head => ?_
    obtain ⟨c, kind⟩ := known f rest head
    rw [isUnknownKind, requestKind_known kind]
    rfl
  · refine ⟨fun busy => ⟨fun samples => exec_not_due rfl (if_neg busy),
      exec_not_due rfl (if_neg busy)⟩, fun waiting => exec_not_due rfl (if_pos waiting),
      fun passes idle => exec_not_due rfl ?_, fun passes started idle => exec_not_due rfl ?_,
      fun idle => exec_not_due rfl ?_, fun idle => exec_not_due rfl ?_,
      fun idle => exec_not_due rfl ?_, fun h => exec_not_due rfl (grant_unchanged h),
      fun l idle => exec_not_due rfl (columnEvent_idle idle), fun h => exec_not_due rfl (if_neg ?_),
      fun j => ⟨fun h => exec_not_due rfl (if_neg ?_), fun h => exec_not_due rfl (if_neg ?_),
        fun h => exec_not_due rfl (if_neg ?_)⟩⟩
    · rw [eventOf, saveCompletionEvent, idle]
    · rw [eventOf, recordReadEvent, started]
      simp only
      split
      · next k attempts inHand => simp [State.recallSlot, inHand] at idle
      · rfl
    · rw [eventOf, frameCloseEvent, idle]
    · rw [eventOf, transmitEndEvent, idle]
    · rw [eventOf, pixelsWriteCompleteEvent]
      cases inHand : s.inHand with
      | pixels w => simp [State.writing, inHand] at idle
      | _ => rfl
    · rintro ⟨waits, silent⟩
      exact h.elim (· waits) (· silent)
    · rw [expiresNext_iff]
      rintro ⟨⟨running, last⟩, mode⟩
      simp [running, last, mode] at h
    · rw [expiresNext_iff]
      rintro ⟨⟨running, last⟩, mode⟩
      simp [running, last, mode] at h
    · rintro ⟨running, more⟩
      obtain stopped | short := h
      · rw [stopped] at running
        cases running
      · omega

end Sys2Proof.Laws
end

/-! ## Resets and power (O8, O9, O10) -/

section
namespace Sys2Proof.Laws
open Sys2Proof.Machine

section
variable {s t u : State}

theorem storeAfterCut_of_store (store : t.store = s.cutOffWrite.store) : storeAfterCut s t := by
  have record (k : Fin 8) : t.record k = s.cutOffWrite.record k := by
    rw [State.record, store, State.record]
  intro k stored
  rw [record]
  exact cutOffWrite_store s k stored

/-- What a write cut off changes (R148). -/
theorem cutOffWrite_eq (s : State) :
    s.cutOffWrite = { s with saving := none, store := s.cutOffWrite.store } := by
  unfold State.cutOffWrite
  split
  · unfold State.setRecord
    split <;> rfl
  · next idle => rw [← idle]

end

/-- Settles O9. -/
theorem powerAndPinReset : Obligations.PowerAndPinReset := by
  intro s straps
  refine ⟨⟨_, rfl, rfl, storeAfterCut_of_store rfl⟩, fun powered => ?_, fun powered => ?_⟩
  · exact ⟨s.boot .pin straps, congrArg _ (if_pos powered), rfl, storeAfterCut_of_store rfl⟩
  · refine ⟨{ s.cutOffWrite with powered := false }, congrArg _ (if_pos powered), ?_,
      storeAfterCut_of_store rfl⟩
    conv_lhs => rw [cutOffWrite_eq]

theorem softResetValues_eq (s : State) :
    s.softResetValues =
      { State.reset with
        powered := s.powered
        pending := s.pending
        profiles := s.softResetValues.profiles
        store := s.softResetValues.store
        startup := none
        cutOffSlot := s.saving.map SaveWrite.slot
        receiver := if s.reception = none then .waiting else .awaitIdle
        straps := s.straps
        marks := { startup := true }
        resetCause := .request } := by
  have receiver : (if s.reception.isSome = true then ReceiverMode.awaitIdle else .waiting) =
      if s.reception = none then .waiting else .awaitIdle := by
    cases s.reception <;> rfl
  unfold State.softResetValues
  rw [cutOffWrite_eq, receiver]
  rfl

/-- While a soft reset is waited for, the arbiter begins no frame (R179). -/
theorem settle_transmitter_of_waiting {s : State} (waits : s.inHand = .softReset) :
    s.settle.transmitter = s.transmitter := by
  have waits' : s.updateCandidates.inHand = .softReset := waits
  unfold State.settle State.arbitrate
  rw [waits']
  simp

/-- Settles O10. -/
theorem softReset : Obligations.SoftReset := by
  refine ⟨fun s f rest taking unit => ?_, fun s waits => ⟨?_, ?_⟩, fun s powered waits silent => ?_⟩
  · exact congrArg _ (device_row taking unit)
  · unfold State.decoderReady
    rw [waits]
    simp
  · exact settle_transmitter_of_waiting waits
  · refine ⟨s.softResetValues, congrArg _ (occur_some powered (if_pos ⟨waits, silent⟩)), ?_,
      fun k => ?_, storeAfterCut_of_store rfl⟩
    · refine (softResetValues_eq s).trans ?_
      rw [powered]
      rfl
    · exact (by simp [State.softResetValues])

/-! ### The reset state -/

theorem reset_slot (k : Fin 24) : State.reset.slots[k] = none := by
  simp [State.reset]

theorem reset_lane (l : Fin 2) : State.reset.lanes[l] = none := by
  simp [State.reset]

theorem reset_coding (j : Fin 8) : State.reset.coding j = none := by
  simp [State.coding, State.reset]

theorem reset_passInFlight (j : Fin 8) : State.reset.passInFlight j = false := by
  rw [State.passInFlight, reset_coding]
  rfl

theorem reset_linkInv : LinkInv State.reset :=
  (linkInv_iff _).mpr (.of_reset ⟨rfl, rfl, rfl, rfl, rfl, rfl, rfl⟩)

theorem reset_lanesApart : LanesApart State.reset := by
  intro p lane
  cases (reset_lane 0).symm.trans lane

theorem reset_laneInv : LaneInv State.reset := by
  refine (laneInv_iff _).mpr ⟨reset_lanesApart, fun j => ?_⟩
  rw [reset_passInFlight, reset_job]
  exact .of_idle rfl rfl

theorem reset_outputInv : OutputInv State.reset := by
  refine (outputInv_iff _).mpr ⟨?_, fun j => ?_⟩
  · exact reset_queueBytes.trans_le (Nat.zero_le _)
  · rw [reset_passInFlight, reset_job]
    exact ⟨by simp [freeJob], by simp [freeJob]⟩

theorem reset_indexInv : IndexInv State.reset := by
  refine (indexInv_iff _).mpr ⟨fun j => ?_, fun l => ?_⟩
  · rw [reset_job]
    exact ⟨Nat.zero_le _, Nat.zero_le _, fun live => absurd rfl live⟩
  · rw [reset_lane]
    exact fun _ => nofun

theorem reset_streamInv : StreamInv State.reset := by
  refine (streamInv_iff reset_lanesApart).mpr fun j => ?_
  rw [reset_coding, reset_job]
  exact ⟨fun _ => nofun, fun _ => nofun⟩

theorem reset_slotInv : SlotInv State.reset := by
  refine (slotInv_iff _).mpr ⟨fun k => ?_, fun _ => nofun⟩
  rw [reset_slot]
  exact fun _ => nofun

theorem reset_cursorInv : CursorInv State.reset := by
  refine (cursorInv_iff _).mpr fun j => ?_
  rw [reset_coding, reset_job]
  exact ⟨Nat.le_refl _, Nat.le_refl _, Nat.zero_le _, rfl, fun _ => nofun, fun _ => nofun,
    fun _ => nofun, nofun⟩

theorem reset_timerInv : TimerInv State.reset := by
  refine (timerInv_iff _).mpr fun j => ?_
  rw [reset_job]
  exact freeJob_timerLaw

theorem reset_record (k : Fin 8) : State.reset.record k = .blank := by
  revert k
  decide

theorem reset_inUse (k : Fin 8) : State.reset.inUse k = 0 :=
  inUse_eq_zero.mpr fun j live => absurd (by rw [reset_job]; rfl) live

theorem reset_profileInv : ProfileInv State.reset := by
  refine (profileInv_iff _).mpr ⟨bootProfiles 0, fun k => ?_, fun k => ?_, fun _ => nofun,
    fun j live => absurd (by rw [reset_job]; rfl) live, fun _ => nofun, ?_⟩
  · rw [bootProfiles]
    split_ifs
    · exact contentLaw_ready factoryProfile_sound
    · exact contentLaw_empty
  · rw [reset_record]
    exact fun _ => nofun
  · rintro _ ⟨⟩
    exact ⟨by decide, fun j => by rw [reset_job]; rfl⟩

theorem reset_freeSlots : State.reset.freeSlots = 24 := by
  have free (k : Fin 24) (_ : k ∈ all24) : (State.reset.slots[k]).isNone = true := by
    rw [reset_slot]
    rfl
  exact (List.countP_eq_length.mpr free).trans rfl

/-- Settles O8. -/
theorem resetState : Obligations.ResetState := by
  refine ⟨reset_job, reset_slot, reset_lane, rfl, rfl, rfl, ?_, ?_, rfl, fun k => ⟨?_, ?_⟩, fun k => ?_,
    rfl, rfl, rfl, rfl, rfl, rfl, rfl, rfl, rfl, rfl, rfl, rfl, rfl, rfl, reset_linkInv,
    reset_candidateInv, reset_laneInv, reset_outputInv, reset_indexInv, reset_streamInv,
    (holdInv_iff _).mpr reset_holdLaw, reset_slotInv, reset_cursorInv, reset_timerInv,
    reset_profileInv⟩
  · have used : State.reset.unsentBytes + State.reset.reservedBytes = 0 := reset_queueBytes
    rw [State.freeSpace, used]
    rfl
  · exact reset_freeSlots
  · exact reset_inUse k
  · rfl
  · rw [bootProfiles]
    split_ifs <;> rfl

end Sys2Proof.Laws
end

/-! ## The outbound arbiter (O7) -/

section
namespace Sys2Proof.Laws
open Sys2Proof.Machine

section
variable {s : State} {j : Fin 8}

/-- While the transmitter is free and no soft reset waits, what settles is the list and the choice. -/
theorem settle_of_silent (silent : s.transmitter = none) (runs : s.inHand ≠ .softReset) :
    s.settle = s.updateCandidates.choose := by
  have silent' : s.updateCandidates.transmitter = none := silent
  have runs' : (s.updateCandidates.inHand != .softReset) = true := bne_iff_ne.mpr runs
  unfold State.settle State.arbitrate
  rw [silent', runs']
  rfl

theorem nonempty_iff (k : NoticeKinds) : k.nonempty = true ↔ k ≠ {} := by
  cases k with
  | mk state condition => cases state <;> cases condition <;> simp [NoticeKinds.nonempty]

/-- No job at this level has a notice pending. -/
theorem find?_level_none {level : Nat}
    (h : ∀ i, (s.job i).noticePending ≠ {} → min 3 (s.job i).noticeLevel ≠ level) :
    (all8.find? fun i => (s.job i).noticePending.nonempty &&
      decide (min 3 (s.job i).noticeLevel = level)) = none := by
  rw [List.find?_eq_none]
  intro i _
  rw [Bool.and_eq_true, nonempty_iff, decide_eq_true_iff]
  exact fun ⟨pending, here⟩ => h i pending here

theorem noticeJob_none (h : ∀ i, (s.job i).noticePending = {}) : s.noticeJob = none := by
  rw [State.noticeJob, List.findSome?_eq_none_iff]
  exact fun level _ => find?_level_none fun i pending => absurd (h i) pending

/-- The job notice of highest level, then of lowest number, is chosen (R82, R164). -/
theorem noticeJob_some (levels : ∀ i, (s.job i).noticeLevel ≤ 3)
    (pending : (s.job j).noticePending ≠ {})
    (first : ∀ i, (s.job i).noticePending ≠ {} →
      (s.job i).noticeLevel < (s.job j).noticeLevel ∨
        ((s.job i).noticeLevel = (s.job j).noticeLevel ∧ j ≤ i)) :
    s.noticeJob = some j := by
  have level (i : Fin 8) : min 3 (s.job i).noticeLevel = (s.job i).noticeLevel :=
    min_eq_right (levels i)
  have above (n : Nat) (higher : (s.job j).noticeLevel < n) :
      (all8.find? fun i => (s.job i).noticePending.nonempty &&
        decide (min 3 (s.job i).noticeLevel = n)) = none := by
    refine find?_level_none fun i pending' => ?_
    rw [level]
    obtain lower | ⟨same, -⟩ := first i pending' <;> omega
  have here : (all8.find? fun i => (s.job i).noticePending.nonempty &&
      decide (min 3 (s.job i).noticeLevel = (s.job j).noticeLevel)) = some j := by
    rw [find?_sorted (by decide)]
    refine ⟨mem_all8 j, ?_, fun i _ lower => ?_⟩
    · rw [level, (nonempty_iff _).mpr pending, decide_eq_true rfl]
      rfl
    · rw [Bool.and_eq_false_iff, decide_eq_false_iff_not, level, ← Bool.not_eq_true, nonempty_iff]
      by_cases pending' : (s.job i).noticePending = {}
      · exact .inl (not_not.mpr pending')
      · refine .inr fun same => ?_
        obtain below | ⟨-, behind⟩ := first i pending'
        · omega
        · exact absurd lower (not_lt.mpr behind)
  have range := levels j
  unfold State.noticeJob
  generalize (s.job j).noticeLevel = n at range above here
  match n, range with
  | 3, _ => simp only [List.findSome?, here]
  | 2, _ => simp only [List.findSome?, above 3 (by omega), here]
  | 1, _ => simp only [List.findSome?, above 3 (by omega), above 2 (by omega), here]
  | 0, _ =>
    simp only [List.findSome?, above 3 (by omega), above 2 (by omega), above 1 (by omega), here]

/-! ### The choice, case by case (R164) -/

theorem choose_reply {r : Frame} {rs : List Frame} (head : s.replies = r :: rs) :
    s.choose = { s with transmitter := some { sending := .reply, frame := r } } := by
  unfold State.choose
  rw [head]

theorem choose_startup (quiet : s.replies = []) (mark : s.marks.startup = true) :
    s.choose = { s with
      transmitter := some { sending := .notice, frame := s.startupNotice }
      marks := { s.marks with startup := false } } := by
  unfold State.choose
  rw [quiet]
  exact if_pos mark

theorem choose_linkQuiet (quiet : s.replies = []) (before : s.marks.startup = false)
    (mark : s.marks.linkQuiet = true) :
    s.choose = { s with
      transmitter := some { sending := .notice, frame := s.linkQuietNotice }
      marks := { s.marks with linkQuiet := false } } := by
  unfold State.choose
  rw [quiet]
  exact (if_neg (by simp [before])).trans (if_pos mark)

theorem choose_saveDone (quiet : s.replies = []) (before : s.marks.startup = false)
    (before' : s.marks.linkQuiet = false) (mark : s.marks.saveDone = true) :
    s.choose = { s with
      transmitter := some { sending := .notice, frame := s.saveDoneNotice }
      marks := { s.marks with saveDone := false } } := by
  unfold State.choose
  rw [quiet]
  exact (if_neg (by simp [before])).trans ((if_neg (by simp [before'])).trans (if_pos mark))

theorem choose_job_or_record (quiet : s.replies = []) (unmarked : s.marks = {}) :
    s.choose =
      match s.noticeJob with
      | some j =>
        { s with transmitter := some { sending := .notice, frame := s.jobNotice j } }.modifyJob j
          fun job => { job with noticePending := {} }
      | none =>
        match s.records with
        | r :: _ =>
          { s with
            transmitter := some { sending := .segment r.nextBytes.length, frame := r.segment } }
        | [] => s := by
  unfold State.choose
  rw [quiet]
  refine (if_neg (by simp [unmarked])).trans ((if_neg (by simp [unmarked])).trans
    ((if_neg (by simp [unmarked])).trans ?_))
  rfl

theorem segment_length (r : OutRecord) :
    r.nextBytes.length = min 4093 (r.bytes.length - r.sent) := by
  simp [OutRecord.nextBytes, Config.segmentBytes]

theorem saveResult_code (r : SaveResult) : r.code = if r = .ok then 0x00 else 0x24 := by
  cases r <;> rfl

theorem flagByte_single (b : Bool) : flagByte [b] = if b = true then 1 else 0 := by
  cases b <;> rfl

theorem startupNotice_eq (s : State) :
    s.startupNotice =
      { kind := 0x81, unit := 0
        payload := [1, s.resetCause.code, s.failedSlots,
          s.cutOffSlot.elim 0 (fun k => byte k.val)] } := by
  unfold State.startupNotice
  cases s.cutOffSlot <;> rfl

theorem linkQuietNotice_eq (s : State) :
    s.linkQuietNotice =
      { kind := 0x81, unit := 0
        payload := [2, if s.quiet then 1 else 0, byte s.errorCounter, byte s.threshold] } := by
  rw [State.linkQuietNotice, flagByte_single]
  rfl

theorem saveDoneNotice_eq {k : Fin 8} {r : SaveResult} (last : s.lastSave = some (k, r)) :
    s.saveDoneNotice =
      { kind := 0x81, unit := 0, payload := [3, byte k.val, if r = .ok then 0x00 else 0x24] } := by
  unfold State.saveDoneNotice
  rw [last]
  simp only [saveResult_code]
  rfl

theorem jobNotice_eq (s : State) (j : Fin 8) :
    s.jobNotice j =
      { kind := 0x81, unit := byte j.val
        payload :=
          [0, (s.job j).state.code, (s.job j).state.stopCode, (s.job j).causes.toByte,
            (s.job j).flags.toByte] ++
          leBytes 2 (s.job j).loaded ++ leBytes 2 (s.job j).emitted ++
          leBytes 2 (s.job j).due ++
          match (s.job j).withheld with
          | some w =>
            [1] ++ leBytes 2 w.band ++ [byte w.pass.number, flagByte [w.complete, w.fits]]
          | none => [0, 0, 0, 0, 0] } := by
  simp only [State.jobNotice, Job.withheldNotice]
  cases (s.job j).withheld <;> rfl

theorem segment_eq (r : OutRecord) :
    r.segment =
      { kind := 0x82, unit := byte r.job.val
        payload := leBytes 3 r.sent ++ (r.bytes.drop r.sent).take 4093 } := rfl

end

/-- Settles O7: the cases of the arbiter's choice, after the candidate list alone has changed. -/
theorem arbiterOrder : Obligations.ArbiterOrder := by
  intro s silent runs levels
  rw [settle_of_silent silent runs]
  generalize same : s.updateCandidates = u
  obtain ⟨replies, marks, records, jobs⟩ : u.replies = s.replies ∧ u.marks = s.marks ∧
    u.records = s.records ∧ u.jobs = s.jobs := by subst same; exact ⟨rfl, rfl, rfl, rfl⟩
  have job (j : Fin 8) : u.job j = s.job j := by rw [State.job, jobs, State.job]
  rw [← replies, ← marks, ← records, ← jobs]
  simp only [← job] at levels ⊢
  have lastSave : u.lastSave = s.lastSave := same ▸ rfl
  refine ⟨fun r rs head => ?_, fun quiet => ⟨fun mark => ?_, fun before mark => ?_,
    fun before before' mark => ?_, fun unmarked => ⟨fun j pending first => ?_, fun none_ => ?_⟩⟩⟩
  · rw [choose_reply head]
    exact ⟨rfl, rfl, rfl⟩
  · rw [choose_startup quiet mark, startupNotice_eq]
    subst same
    exact ⟨rfl, rfl, rfl⟩
  · rw [choose_linkQuiet quiet before mark, linkQuietNotice_eq]
    subst same
    exact ⟨rfl, rfl, rfl⟩
  · rw [choose_saveDone quiet before before' mark]
    refine ⟨fun k r last => ?_, rfl, rfl⟩
    rw [saveDoneNotice_eq (lastSave.trans last)]
  · rw [choose_job_or_record quiet unmarked, noticeJob_some levels pending first]
    exact ⟨congrArg (fun f => some ({ sending := .notice, frame := f } : Transmission))
      (jobNotice_eq u j), rfl, unmarked⟩
  · rw [choose_job_or_record quiet unmarked, noticeJob_none none_]
    cases list : u.records with
    | nil =>
      have still : u.transmitter = none := by
        subst same
        exact silent
      exact ⟨rfl, unmarked, nofun, fun _ => still⟩
    | cons r rs =>
      refine ⟨rfl, unmarked, ?_, nofun⟩
      rintro _ _ ⟨⟩
      simp only [segment_length, segment_eq]

end Sys2Proof.Laws
end

/-! ## Fields and payload layouts (O49) -/

section
namespace Sys2Proof.Laws
open Sys2Proof.Machine

theorem leNat_leBytes (width n : Nat) : leNat (leBytes width n) = n % 256 ^ width := by
  induction width generalizing n with
  | zero => rw [pow_zero, Nat.mod_one]; rfl
  | succ width ih =>
    rw [leBytes, leNat, ih, pow_succ, Nat.mul_comm _ 256, Nat.mod_mul, BitVec.toNat_ofNat]

theorem leNat_leBytes_of_lt {width n : Nat} (h : n < 256 ^ width) :
    leNat (leBytes width n) = n := by
  rw [leNat_leBytes, Nat.mod_eq_of_lt h]

theorem conditionsOfByte_toByte (c : Conditions) : conditionsOfByte c.toByte = c := by
  cases c with
  | mk a b c d => revert a b c d; decide

theorem noticeKindsOfByte_toByte (k : NoticeKinds) : noticeKindsOfByte k.toByte = k := by
  cases k with
  | mk a b => revert a b; decide

theorem retimeRequestOf_layout {mode reload selector : Nat} (hm : mode < 256) (hr : reload < 65536)
    (hs : selector < 256) :
    retimeRequestOf ([byte mode] ++ leBytes 2 reload ++ [byte selector]) =
      { mode, reload, selector } := by
  have fields : retimeRequestOf ([byte mode] ++ leBytes 2 reload ++ [byte selector]) =
      { mode := leNat (leBytes 1 mode), reload := leNat (leBytes 2 reload)
        selector := leNat (leBytes 1 selector) } := rfl
  rw [fields, leNat_leBytes_of_lt hm, leNat_leBytes_of_lt hr, leNat_leBytes_of_lt hs]

theorem resolveRequestOf_layout {action pass index budget : Nat} (ha : action < 256)
    (hp : pass < 256) (hi : index < 256) (hb : budget < 4294967296) :
    resolveRequestOf ([byte action, byte pass, byte index] ++ leBytes 4 budget) =
      { action, pass, index, budget } := by
  have fields : resolveRequestOf ([byte action, byte pass, byte index] ++ leBytes 4 budget) =
      { action := leNat (leBytes 1 action), pass := leNat (leBytes 1 pass)
        index := leNat (leBytes 1 index), budget := leNat (leBytes 4 budget) } := rfl
  rw [fields, leNat_leBytes_of_lt ha, leNat_leBytes_of_lt hp, leNat_leBytes_of_lt hi,
    leNat_leBytes_of_lt hb]

theorem pixelsRequestOf_layout {tag band row x count : Nat} {data : List Byte} (ht : tag < 65536)
    (hb : band < 65536) (hr : row < 256) (hx : x < 65536) (hc : count < 65536) :
    pixelsRequestOf
      (leBytes 2 tag ++ leBytes 2 band ++ [byte row] ++ leBytes 2 x ++ leBytes 2 count ++ data) =
      { tag, band, row, x, count, data } := by
  have fields : pixelsRequestOf
      (leBytes 2 tag ++ leBytes 2 band ++ [byte row] ++ leBytes 2 x ++ leBytes 2 count ++ data) =
      { tag := leNat (leBytes 2 tag), band := leNat (leBytes 2 band), row := leNat (leBytes 1 row)
        x := leNat (leBytes 2 x), count := leNat (leBytes 2 count), data } := rfl
  rw [fields, leNat_leBytes_of_lt ht, leNat_leBytes_of_lt hb, leNat_leBytes_of_lt hr,
    leNat_leBytes_of_lt hx, leNat_leBytes_of_lt hc]

theorem openRequestOf_layout {profile width height budget start priority tag mask level : Nat}
    {halts : Conditions} {kinds : NoticeKinds} {timer : Option TimerRequest}
    (hp : profile < 256) (hw : width < 65536) (hh : height < 65536) (hb : budget < 4294967296)
    (hs : start < 256) (hpr : priority < 256) (ht : tag < 65536) (hm : mask < 65536)
    (hl : level < 256)
    (htimer : ∀ t ∈ timer, t.mode < 256 ∧ t.reload < 65536 ∧ t.selector < 256) :
    openRequestOf
      ([byte profile] ++ leBytes 2 width ++ leBytes 2 height ++ leBytes 4 budget ++
        [byte start, byte priority] ++ leBytes 2 tag ++ leBytes 2 mask ++
        [halts.toByte, byte level, kinds.toByte] ++
        timer.elim [] fun t => [byte t.mode] ++ leBytes 2 t.reload ++ [byte t.selector]) =
      { profile, width, height, budget, startIndex := start, priority, tag, mask, halts,
        noticeLevel := level, noticeKinds := kinds, timer } := by
  have fields : openRequestOf
      ([byte profile] ++ leBytes 2 width ++ leBytes 2 height ++ leBytes 4 budget ++
        [byte start, byte priority] ++ leBytes 2 tag ++ leBytes 2 mask ++
        [halts.toByte, byte level, kinds.toByte] ++
        timer.elim [] fun t => [byte t.mode] ++ leBytes 2 t.reload ++ [byte t.selector]) =
      { profile := leNat (leBytes 1 profile), width := leNat (leBytes 2 width)
        height := leNat (leBytes 2 height), budget := leNat (leBytes 4 budget)
        startIndex := leNat (leBytes 1 start), priority := leNat (leBytes 1 priority)
        tag := leNat (leBytes 2 tag), mask := leNat (leBytes 2 mask)
        halts := conditionsOfByte halts.toByte, noticeLevel := leNat (leBytes 1 level)
        noticeKinds := noticeKindsOfByte kinds.toByte
        timer := timer.map fun t =>
          { mode := leNat (leBytes 1 t.mode), reload := leNat (leBytes 2 t.reload)
            selector := leNat (leBytes 1 t.selector) } } := by
    cases timer <;> rfl
  have timed : (timer.map fun t =>
      ({ mode := leNat (leBytes 1 t.mode), reload := leNat (leBytes 2 t.reload)
         selector := leNat (leBytes 1 t.selector) } : TimerRequest)) = timer := by
    cases timer with
    | none => rfl
    | some t =>
      obtain ⟨mode, reload, selector⟩ := htimer t rfl
      rw [Option.map_some, leNat_leBytes_of_lt mode, leNat_leBytes_of_lt reload,
        leNat_leBytes_of_lt selector]
  rw [fields, timed, conditionsOfByte_toByte, noticeKindsOfByte_toByte, leNat_leBytes_of_lt hp,
    leNat_leBytes_of_lt hw, leNat_leBytes_of_lt hh, leNat_leBytes_of_lt hb, leNat_leBytes_of_lt hs,
    leNat_leBytes_of_lt hpr, leNat_leBytes_of_lt ht, leNat_leBytes_of_lt hm, leNat_leBytes_of_lt hl]

/-- Settles O49: every field stands at its place, and its bytes are its number's. -/
theorem payloadLayouts : Obligations.PayloadLayouts :=
  ⟨fun width n => ⟨leBytes_length width n, leNat_leBytes width n⟩,
    fun _ _ _ _ _ _ _ _ _ _ _ _ hp hw hh hb hs hpr ht hm hl htimer =>
      openRequestOf_layout hp hw hh hb hs hpr ht hm hl htimer,
    fun _ _ _ => retimeRequestOf_layout, fun _ _ _ _ => resolveRequestOf_layout,
    fun _ _ _ _ _ _ => pixelsRequestOf_layout⟩

end Sys2Proof.Laws
end

/-! ## Characters and the envelope of a frame (O48) -/

section
namespace Sys2Proof.Laws
open Sys2Proof.Machine

theorem leBytes_leNat (bytes : List Byte) : leBytes bytes.length (leNat bytes) = bytes := by
  induction bytes with
  | nil => rfl
  | cons b rest ih =>
    have low : byte (b.toNat + 256 * leNat rest) = b := by
      refine BitVec.eq_of_toNat_eq ?_
      have := b.isLt
      rw [BitVec.toNat_ofNat]
      omega
    have high : (b.toNat + 256 * leNat rest) / 256 = leNat rest := by
      have := b.isLt
      omega
    rw [List.length_cons, leNat, leBytes, low, high, ih]

/-- The bytes of a frame less its CRC (R157). -/
theorem dropLast_dropLast (bytes : List Byte) :
    bytes.dropLast.dropLast = bytes.take (bytes.length - 2) := by
  rw [List.dropLast_eq_take, List.dropLast_eq_take, List.take_take, List.length_take]
  congr 1
  omega

/-- The bytes are those of a bad frame (R157). -/
def badBytes (bytes : List Byte) : Prop :=
  bytes.length < 6 ∨ 4102 < bytes.length ∨ 4096 < field bytes 2 2 ∨
    field bytes 2 2 ≠ bytes.length - 6 ∨
    bytes.drop (bytes.length - 2) ≠ leBytes 2 (crc16 (bytes.take (bytes.length - 2))).toNat

/-- The frame the bytes are read as, once they pass R157's checks. -/
def openedFrame (bytes : List Byte) : Frame where
  kind := bytes.getD 0 0
  unit := bytes.getD 1 0
  payload := (bytes.take (bytes.length - 2)).drop 4

theorem frameOfBytes_of_bad {bytes : List Byte} (bad : badBytes bytes) :
    frameOfBytes bytes = none := by
  unfold frameOfBytes
  simp only [dropLast_dropLast, maxFrameBytes, maxPayloadBytes]
  split_ifs with short long large other crc
  · rfl
  · rfl
  · rfl
  · rfl
  · rfl
  · obtain h | h | h | h | h := bad
    · exact absurd h short
    · exact absurd h long
    · exact absurd h large
    · exact absurd h other
    · exact absurd h.symm crc

theorem frameOfBytes_of_good {bytes : List Byte} (good : ¬badBytes bytes) :
    frameOfBytes bytes = some (openedFrame bytes) := by
  simp only [badBytes, not_or, not_lt, not_not] at good
  obtain ⟨short, long, large, same, crc⟩ := good
  unfold frameOfBytes
  simp only [dropLast_dropLast, maxFrameBytes, maxPayloadBytes]
  rw [if_neg (by omega), if_neg (by omega), if_neg (by omega), if_neg (by omega),
    if_neg (by simp [crc])]
  rfl

/-- The bytes of the frame that good bytes are read as (R157). -/
theorem openedFrame_bytes {bytes : List Byte} (good : ¬badBytes bytes) :
    (openedFrame bytes).bytes = bytes ∧ (openedFrame bytes).payload.length ≤ 4096 := by
  simp only [badBytes, not_or, not_lt, not_not] at good
  obtain ⟨short, long, large, same, crc⟩ := good
  have size : (openedFrame bytes).payload.length = bytes.length - 6 := by
    simp only [openedFrame, List.length_drop, List.length_take]
    omega
  have body : (openedFrame bytes).body = bytes.take (bytes.length - 2) := by
    match bytes, short, same, size with
    | k :: u :: l :: h :: rest, short, same, size =>
      have long_ : leBytes 2 (openedFrame (k :: u :: l :: h :: rest)).payload.length = [l, h] := by
        rw [size, ← same]
        exact leBytes_leNat [l, h]
      have inside : (k :: u :: l :: h :: rest).length - 2 = (rest.length - 2) + 4 := by
        simp only [List.length_cons] at short ⊢
        omega
      rw [Frame.body, long_]
      simp only [openedFrame, inside]
      rfl
  refine ⟨?_, by omega⟩
  rw [Frame.bytes, body, ← crc, List.take_append_drop]

theorem frame_length (f : Frame) : f.bytes.length = f.payload.length + 6 := by
  simp only [Frame.bytes, Frame.body, List.length_append, List.length_cons, leBytes_length]
  omega

/-- A frame's own bytes pass R157's checks, and are read as that frame. -/
theorem frameOfBytes_bytes {f : Frame} (small : f.payload.length ≤ 4096) :
    frameOfBytes f.bytes = some f := by
  have length := frame_length f
  have covered : f.bytes.take (f.bytes.length - 2) = f.body := by
    rw [Frame.bytes, List.length_append, leBytes_length, Nat.add_sub_cancel, List.take_left]
  have crc : f.bytes.drop (f.bytes.length - 2) = leBytes 2 (crc16 f.body).toNat := by
    rw [Frame.bytes, List.length_append, leBytes_length, Nat.add_sub_cancel, List.drop_left]
  have size : field f.bytes 2 2 = f.payload.length :=
    leNat_leBytes_of_lt (width := 2) (n := f.payload.length) (by omega)
  have good : ¬badBytes f.bytes := by
    rw [badBytes, covered, crc, size]
    rintro (short | long | large | other | crc)
    · omega
    · omega
    · omega
    · omega
    · exact crc rfl
  rw [frameOfBytes_of_good good]
  simp only [openedFrame, covered]
  rfl

/-- The bits a character was sampled with, by their majorities (R154). -/
theorem characterData_eq (samples : CharacterSamples) :
    characterData samples =
      flagByte (((samples.toList.map BitSamples.majority).drop 1).take 8) := by
  rw [characterData, List.map_take, List.map_drop]

theorem majority_getElem {samples : CharacterSamples} {bits : List Bool}
    (sent : samples.toList.map BitSamples.majority = bits) (i : Nat) (inside : i < 10) :
    bits[i]? = some samples[i].majority := by
  subst sent
  simp [inside]

/-- Settles O48. -/
theorem framesReadBack : Obligations.FramesReadBack := by
  refine ⟨fun b samples sent => ?_, fun f => frameOfBytes_bytes, fun bytes f read => ?_⟩
  · have start : some samples[0].majority = (characterBits b)[0]? :=
      (majority_getElem sent 0 (by decide)).symm
    have stop : some samples[9].majority = (characterBits b)[9]? :=
      (majority_getElem sent 9 (by decide)).symm
    have data : characterData samples = b := by
      rw [characterData_eq, sent]
      exact flagByte_dataBits b
    have low : samples[0].majority = false := Option.some.inj start
    have high : samples[9].majority = true := Option.some.inj stop
    rw [characterOutcome, low, high, data]
    rfl
  · by_cases bad : badBytes bytes
    · rw [frameOfBytes_of_bad bad] at read
      cases read
    · rw [frameOfBytes_of_good bad] at read
      cases read
      exact openedFrame_bytes bad

end Sys2Proof.Laws
end

/-! ## Characters and the close of a frame (O19, O20, O21) -/

section
namespace Sys2Proof.Laws
open Sys2Proof.Machine

/-! ### Frames that close -/

theorem frameClose_good {s : State} {r : Reception} (reception : s.reception = some r)
    (good : ¬badReception r) :
    frameCloseEvent s = some (State.goodFrame { s with reception := none, receiver := .waiting }
      (openedFrame r.bytes) r.noisy) := by
  have framing : r.framingError = false := by
    simpa using fun framing => good (.inl framing)
  have bytes : ¬badBytes r.bytes := fun bad => good (.inr bad)
  unfold frameCloseEvent
  simp only [reception, framing, frameOfBytes_of_good bytes, Bool.false_eq_true, if_false]

theorem frameClose_bad {s : State} {r : Reception} (reception : s.reception = some r)
    (bad : badReception r) :
    frameCloseEvent s =
      some (State.badFrame { s with reception := none, receiver := .waiting }) := by
  have refused : (if r.framingError = true then none else frameOfBytes r.bytes) = none := by
    split_ifs with framing
    · rfl
    · exact frameOfBytes_of_bad (bad.resolve_left framing)
  unfold frameCloseEvent
  simp only [reception, refused]

/-- Settles O20. -/
theorem goodFrameCloses : Obligations.GoodFrameCloses := by
  intro s r powered reception good
  refine ⟨openedFrame r.bytes, (openedFrame_bytes fun bad => good (.inr bad)).1, ?_⟩
  refine congrArg _ ((occur_some powered (frameClose_good reception good)).trans (congrArg _ ?_))
  rfl

/-- PAUSE on entry to the quiet state, as the statements write it (R72, R161). -/
theorem pause_eq (v : Job) (flying : Bool) :
    v.pause flying =
      if v.state = .running then v.moved (if flying then .stopping .pause else .paused) else v := by
  unfold Job.pause
  split_ifs with running flies
  · rw [enter_eq_moved (by simp [running])]
  · rw [enter_eq_moved (by simp [running])]
  · rfl

/-- Settles O21. -/
theorem badFrameCloses : Obligations.BadFrameCloses := by
  intro s r powered reception bad
  refine ⟨_, congrArg _ (occur_some powered (frameClose_bad reception bad)), ?_⟩
  unfold State.badFrame State.linkIncrement
  split_ifs with below quiet
  · refine ⟨rfl, fun _ => ⟨rfl, rfl, rfl, rfl⟩, fun above => ?_, fun above => ?_⟩
    · exact absurd below (not_lt.mpr above)
    · exact absurd below (not_lt.mpr above)
  · refine ⟨rfl, fun under => absurd under below, fun _ _ => ⟨rfl, quiet, rfl, rfl⟩,
      fun _ loud => ?_⟩
    exact absurd (quiet.symm.trans loud) (by decide)
  · refine ⟨rfl, fun under => absurd under below, fun _ quiet' => absurd quiet' quiet,
      fun _ _ => ⟨rfl, rfl, rfl, fun j => ?_⟩⟩
    exact (job_mapJobs _ _ j).trans (pause_eq ..)

/-! ### Characters -/

theorem dataBits_ext {samples : CharacterSamples} {data : Byte}
    (same : ∀ i : Fin 8, data.getLsbD i.val = (samples[i.val + 1]).majority) :
    characterData samples = data := by
  have bits : ((samples.toList.map BitSamples.majority).drop 1).take 8 = dataBits data := by
    refine List.ext_getElem (by simp [dataBits]) fun i inside inside' => ?_
    have small : i < 8 := by simpa [dataBits] using inside'
    simp only [List.getElem_take, List.getElem_drop, List.getElem_map, Vector.getElem_toList,
      dataBits, List.getElem_finRange]
    simp only [Nat.add_comm 1 i]
    exact (same ⟨i, small⟩).symm
  rw [characterData_eq, bits, flagByte_dataBits]

theorem characterNoisy_eq (samples : CharacterSamples) :
    characterNoisy samples = decide (∃ i : Fin 10, (samples[i]).disagrees = true) := by
  rw [Bool.eq_iff_iff, decide_eq_true_iff, characterNoisy, List.any_eq_true]
  constructor
  · rintro ⟨bit, mem, disagrees⟩
    obtain ⟨i, inside, here⟩ := List.getElem_of_mem mem
    subst here
    exact ⟨⟨i, by simpa using inside⟩, by simpa using disagrees⟩
  · rintro ⟨i, disagrees⟩
    exact ⟨samples[i], by simp, disagrees⟩

theorem receiveByte_eq (r : Option Reception) (b : Byte) (framing noisy : Bool) :
    receiveByte r b framing noisy =
      match r with
      | none => { bytes := [b], framingError := framing, noisy := noisy }
      | some r =>
        { bytes := if r.bytes.length < 4103 then r.bytes ++ [b] else r.bytes
          framingError := r.framingError || framing
          noisy := r.noisy || noisy } := by
  cases r with
  | none => rfl
  | some r =>
    exact congrArg (fun bytes => Reception.mk bytes _ _) (if_congr Nat.lt_succ_iff.symm rfl rfl)

section
variable {s : State} {c : CharacterSamples} {b : Byte}

theorem characterEvent_falseStart (waiting : s.receiver = .waiting)
    (h : characterOutcome c = .falseStart) : characterEvent c s = some s := by
  rw [characterEvent, if_pos waiting, h]

theorem characterEvent_good (waiting : s.receiver = .waiting) (h : characterOutcome c = .good b) :
    characterEvent c s =
      some { s with reception := some (receiveByte s.reception b false (characterNoisy c)) } := by
  rw [characterEvent, if_pos waiting, h]

theorem characterEvent_framing (waiting : s.receiver = .waiting)
    (h : characterOutcome c = .framingError b) :
    characterEvent c s =
      some { s with
        reception := some (receiveByte s.reception b true (characterNoisy c))
        receiver := .awaitMark } := by
  rw [characterEvent, if_pos waiting, h]

theorem characterEvent_break (waiting : s.receiver = .waiting)
    (h : characterOutcome c = .breakCharacter) : characterEvent c s = breakEvent s := by
  rw [characterEvent, if_pos waiting, h, breakEvent, if_pos waiting]

end

/-- Settles O19. -/
theorem charactersReceived : Obligations.CharactersReceived := by
  refine ⟨fun s samples data powered waiting same => ?_, fun s powered => ?_⟩
  · intro noisy joined
    have join (framing : Bool) :
        receiveByte s.reception data framing (characterNoisy samples) = joined framing := by
      have noise : characterNoisy samples = noisy := characterNoisy_eq samples
      rw [noise]
      exact receiveByte_eq ..
    have outcome : characterOutcome samples =
        if samples[0].majority = true then .falseStart
        else if samples[9].majority = true then .good data
        else if data = 0 then .breakCharacter
        else .framingError data := by
      rw [characterOutcome, dataBits_ext same]
    refine ⟨fun mark => ?_, fun space stop => ?_, fun space stop some_ => ?_,
      fun space stop none_ => ?_⟩
    · rw [if_pos mark] at outcome
      exact congrArg _ (occur_some powered (characterEvent_falseStart waiting outcome))
    · rw [if_neg (by simp [space]), if_pos stop] at outcome
      rw [← join]
      exact congrArg _ (occur_some powered (characterEvent_good waiting outcome))
    · rw [if_neg (by simp [space]), if_neg (by simp [stop]), if_neg some_] at outcome
      rw [← join]
      exact congrArg _ (occur_some powered (characterEvent_framing waiting outcome))
    · rw [if_neg (by simp [space]), if_neg (by simp [stop]), if_pos none_] at outcome
      have same_ : occur (characterEvent samples) s = occur breakEvent s := by
        rw [occur, occur, characterEvent_break waiting outcome]
      exact congrArg _ same_
  · refine ⟨fun waiting => congrArg _ (occur_some powered (if_pos waiting)), fun busy => ?_⟩
    exact ⟨fun samples => exec_not_due rfl (if_neg busy), exec_not_due rfl (if_neg busy),
      congrArg _ (occur_some powered (if_neg busy))⟩

/-! ## The line, and the end of a transmission (O22) -/

section
variable {s : State} {t : Transmission}

theorem lineAt_sending (sending : s.transmitter = some t) (n : Nat) :
    s.lineAt n = t.frame.lineBits.getD n true := by
  unfold State.lineAt
  rw [sending]

theorem lineAt_character (sending : s.transmitter = some t) {i : Nat} {b : Byte}
    (at_ : t.frame.bytes[i]? = some b) {n : Nat} (small : n < 10) {bit : Bool}
    (here : (characterBits b)[n]? = some bit) : s.lineAt (10 * i + n) = bit := by
  rw [lineAt_sending sending, List.getD_eq_getElem?_getD, lineBits_getElem? at_ small, here]
  rfl

theorem advanceRecords_cons (n : Nat) (r : OutRecord) (rs : List OutRecord) :
    advanceRecords n (r :: rs) =
      if r.sent + n < r.bytes.length then { r with sent := r.sent + n } :: rs else rs := by
  rw [advanceRecords]
  split_ifs with last more
  · omega
  · rfl
  · rfl
  · omega

end

/-- Settles O22. -/
theorem transmitEnds : Obligations.TransmitEnds := by
  refine ⟨fun s n silent => ?_, fun s t sending => ⟨fun i b at_ => ⟨?_, fun k => ?_, ?_⟩,
    fun n past => ?_⟩, fun s t powered sending => ⟨fun reply => ?_, fun notice => ?_,
      fun n r rs segment records => ?_⟩⟩
  · unfold State.lineAt
    rw [silent]
  · exact lineAt_character sending at_ (n := 0) (by decide) rfl
  · rw [Nat.add_assoc]
    refine lineAt_character sending at_ (by omega) ?_
    rw [Nat.add_comm, characterBits, List.getElem?_cons_succ]
    simp [dataBits, List.getElem?_append]
  · exact lineAt_character sending at_ (by decide) (by simp [characterBits, dataBits])
  · rw [lineAt_sending sending, List.getD_eq_default]
    rwa [lineBits_length]
  · refine congrArg _ (occur_some powered ?_)
    rw [transmitEndEvent, sending]
    simp only [reply, List.drop_one]
  · refine congrArg _ (occur_some powered ?_)
    rw [transmitEndEvent, sending]
    simp only [notice]
  · refine congrArg _ (occur_some powered ?_)
    rw [transmitEndEvent, sending, ← advanceRecords_cons, ← records]
    simp only [segment]

end Sys2Proof.Laws
end

/-! ## Device requests (O17, O18) -/

section
namespace Sys2Proof.Laws
open Sys2Proof.Machine

theorem clampCode_value (clamped : Bool) : (clampCode clamped).value = okOrClamped clamped := by
  cases clamped <;> rfl

theorem field_single (b : Byte) : field [b] 0 1 = b.toNat := by
  simp [field, leNat]

theorem toNat_beq_zero (b : Byte) : (b.toNat == 0) = (b == 0) := by
  rw [Bool.eq_iff_iff, beq_iff_eq, beq_iff_eq]
  exact BitVec.toNat_inj (y := 0)

theorem strapsByte_eq (straps : Straps) :
    strapsByte straps = (if straps.strap1 then 2 else 0) + (if straps.strap0 then 1 else 0) := by
  cases straps with
  | mk a b => cases a <;> cases b <;> rfl

/-- Settles O18. -/
theorem linkRequests : Obligations.LinkRequests := by
  intro s f rest unit
  refine ⟨fun b taking payload => ?_, fun taking => ?_, fun taking => ?_⟩
  · refine congrArg _ ((device_row taking unit).trans (congrArg _ ?_))
    rw [linkSetTaken, payload, field_single, toNat_beq_zero, ← clampCode_value]
    rfl
  · refine congrArg _ ((device_row taking unit).trans (congrArg _ ?_))
    have zeros : List.replicate 10 0 = [flagByte [false], byte 0] ++ Totals.report {} := by decide
    rw [zeros]
    rfl
  · refine congrArg _ ((device_row taking unit).trans (congrArg _ ?_))
    rw [← strapsByte_eq, ← flagByte_single]
    rfl

theorem flagByte_getLsbD (bits : List Bool) {n : Nat} (small : n < 8) :
    (flagByte bits).getLsbD n = bits.getD n false := by
  induction bits generalizing n with
  | nil => simp [flagByte]
  | cons b bits ih =>
    rw [flagByte, BitVec.getLsbD_or, BitVec.getLsbD_shiftLeft]
    cases n with
    | zero => simp
    | succ n =>
      rw [Nat.add_sub_cancel, ih (by omega)]
      simp [small]

/-- The attention summary, job by job (R177). -/
theorem attention_bit (s : State) (n : Fin 8) : s.attention.getLsbD n.val = true ↔
    (s.job n).state = .halted ∨ (s.job n).flags ≠ {} := by
  have flags (c : Conditions) : c.nonempty = true ↔ c ≠ {} := by
    cases c with
    | mk a b c d => revert a b c d; decide
  have here : all8[n.val]? = some n := by
    revert n
    decide
  rw [State.attention, flagByte_getLsbD _ n.isLt, List.getD_eq_getElem?_getD, List.getElem?_map, here,
    Option.map_some, Option.getD_some, Bool.or_eq_true, beq_iff_eq, flags]

/-- Settles O17. -/
theorem inquireReport : Obligations.InquireReport := by
  intro s f rest taking unit
  refine ⟨s.attention, attention_bit s, congrArg _ ((device_row taking unit).trans (congrArg _ ?_))⟩
  rw [← flagByte_single]
  rfl

/-! ## The decoder's own refusals (O16) -/

section
variable {s : State} {f : Frame} {rest : List Frame}

theorem withLength_refused {ok : Nat → Bool} {handle : Frame → State → State}
    (bad : ok f.payload.length = false) : withLength ok handle f s = s.answer f .badLength [] := by
  unfold withLength
  rw [bad]
  rfl

theorem withLength_taken {ok : Nat → Bool} {handle : Frame → State → State}
    (good : ok f.payload.length = true) : withLength ok handle f s = handle f s := by
  unfold withLength
  rw [good]
  rfl

theorem deviceRequest_refused {length : Nat} {owner : Frame → State → State}
    (good : (f.payload.length == length) = true) (unit : f.unit ≠ 0) :
    deviceRequest length owner f s = s.answer f .badField [0xFF] :=
  (withLength_taken good).trans (if_neg unit)

theorem profileRequest_refused {ok : Nat → Bool} {owner : Fin 8 → Frame → State → State}
    (good : ok f.payload.length = true) (unit : 8 ≤ f.unit.toNat) :
    profileRequest ok owner f s = s.answer f .badField [0xFF] := by
  refine (withLength_taken good).trans ?_
  simp only [index8_of_ge unit]

theorem jobRequest_refused {ok : Nat → Bool} {owner : Fin 8 → Frame → State → State}
    (good : ok f.payload.length = true) (unit : 8 ≤ f.unit.toNat) :
    jobRequest ok owner f s = s.answer f .noJob [] := by
  refine (withLength_taken good).trans ?_
  simp only [index8_of_ge unit]

end

/-- The forms of the rows of requests other than RESOLVE, with the lengths their kind has (R169,
R174). -/
inductive RowForm (c : Instr) (k : Byte) : Prop
  | device (length : Nat) (owner : Frame → State → State)
    (event : eventOf c = takeHead (isKind k) (deviceRequest length owner))
    (fits : ∀ n, lengthFits k n = (n == length)) (range : k.toNat ≤ 0x05)
  | profile (ok : Nat → Bool) (owner : Fin 8 → Frame → State → State)
    (event : eventOf c = takeHead (isKind k) (profileRequest ok owner))
    (fits : ∀ n, lengthFits k n = ok n) (range : 0x10 ≤ k.toNat ∧ k.toNat ≤ 0x14)
  | job (ok : Nat → Bool) (owner : Fin 8 → Frame → State → State)
    (event : eventOf c = takeHead (isKind k) (jobRequest ok owner))
    (fits : ∀ n, lengthFits k n = ok n) (range : 0x20 ≤ k.toNat ∧ k.toNat ≤ 0x2A)
  | pixels (event : eventOf c = takeHead (isKind k) (withLength (9 ≤ ·) pixelsTaken))
    (fits : ∀ n, lengthFits k n = decide (9 ≤ n)) (range : k = 0x30)

theorem row_form {c : Instr} {k : Byte} (kind : requestKind c = some k) (other : k ≠ 0x24) :
    RowForm c k := by
  cases c with
  | accept => cases kind; exact absurd rfl other
  | retry => cases kind; exact absurd rfl other
  | degrade => cases kind; exact absurd rfl other
  | drop => cases kind; exact absurd rfl other
  | continueJob => cases kind; exact absurd rfl other
  | inquire => cases kind; exact .device _ _ rfl (fun _ => rfl) (by decide)
  | softReset => cases kind; exact .device _ _ rfl (fun _ => rfl) (by decide)
  | linkSet => cases kind; exact .device _ _ rfl (fun _ => rfl) (by decide)
  | linkClear => cases kind; exact .device _ _ rfl (fun _ => rfl) (by decide)
  | linkStatus => cases kind; exact .device _ _ rfl (fun _ => rfl) (by decide)
  | profileWrite =>
    cases kind
    exact .profile _ _ rfl (fun _ => Bool.decide_and _ _) (by decide)
  | profileCommit => cases kind; exact .profile _ _ rfl (fun _ => rfl) (by decide)
  | profileRead => cases kind; exact .profile _ _ rfl (fun _ => rfl) (by decide)
  | profileSave => cases kind; exact .profile _ _ rfl (fun _ => rfl) (by decide)
  | profileRecall => cases kind; exact .profile _ _ rfl (fun _ => rfl) (by decide)
  | jobOpen =>
    cases kind
    refine .job _ _ rfl (fun n => ?_) (by decide)
    simp [openLengths, lengthFits, Bool.beq_eq_decide_eq]
  | jobStart => cases kind; exact .job _ _ rfl (fun _ => rfl) (by decide)
  | jobPause => cases kind; exact .job _ _ rfl (fun _ => rfl) (by decide)
  | jobResume => cases kind; exact .job _ _ rfl (fun _ => rfl) (by decide)
  | jobAbort => cases kind; exact .job _ _ rfl (fun _ => rfl) (by decide)
  | jobClose => cases kind; exact .job _ _ rfl (fun _ => rfl) (by decide)
  | jobStatus => cases kind; exact .job _ _ rfl (fun _ => rfl) (by decide)
  | clearFlags => cases kind; exact .job _ _ rfl (fun _ => rfl) (by decide)
  | setEnables => cases kind; exact .job _ _ rfl (fun _ => rfl) (by decide)
  | retime => cases kind; exact .job _ _ rfl (fun _ => rfl) (by decide)
  | pixels => cases kind; exact .pixels rfl (fun _ => rfl) rfl
  | _ => cases kind

section
variable {s : State} {f : Frame} {rest : List Frame} {c : Instr}

/-- A row that takes the head frame refuses it by its handler's answer. -/
theorem exec_refused {mine : Frame → Bool} {handle : Frame → State → State} {code : ReplyCode}
    {value : Byte} {data : List Byte} (ready : s.decoderReady = true) (head : s.inbound = f :: rest)
    (row : exec c s = .next (occur (eventOf c) s)) (event : eventOf c = takeHead mine handle)
    (isMine : mine f = true)
    (refused : handle f { s with inbound := rest } =
      State.answer { s with inbound := rest } f code data) (named : code.value = value) :
    exec c s = .next (State.settle (s.took rest (replyTo f value data))) := by
  subst named
  rw [row, event, row_taken ready head isMine, refused, answer_eq_took]

theorem Answers.inbound {u : State} (h : Answers f s u) : u.inbound = s.inbound := by
  obtain ⟨v, code, data, effect, rfl⟩ := h
  change v.inbound = s.inbound
  cases effect with
  | freed j => exact freeContext_inbound s j
  | _ => rfl

theorem softReset_inbound (f : Frame) (v : State) :
    (deviceRequest 0 softResetTaken f v).inbound = v.inbound := by
  obtain refused | taken := deviceRequest_cases (f := f) (s := v) 0 softResetTaken
  · exact refused.inbound
  · rw [taken]
    rfl

theorem profileRecall_inbound (f : Frame) (v : State) :
    (profileRequest (· == 0) profileRecallTaken f v).inbound = v.inbound := by
  obtain refused | ⟨k, taken⟩ := profileRequest_cases (f := f) (s := v) (· == 0) profileRecallTaken
  · exact refused.inbound
  · rw [taken, profileRecallTaken]
    split_ifs <;> rfl

theorem pixels_inbound (f : Frame) (v : State) :
    (withLength (9 ≤ ·) pixelsTaken f v).inbound = v.inbound := by
  simp only [withLength, pixelsTaken]
  split
  · split
    · rfl
    · split
      · rfl
      · simp [State.beginWrite]
  · rfl

/-- A row of a request takes the head of the inbound queue off it (R159). -/
theorem request_row {k : Byte} (kind : requestKind c = some k) :
    ∃ mine handle, eventOf c = takeHead mine handle ∧
      ∀ f v, mine f = true → (handle f v).inbound = v.inbound := by
  by_cases reset : c = .softReset
  · subst reset
    exact ⟨_, _, rfl, fun f v _ => softReset_inbound f v⟩
  by_cases recalls : c = .profileRecall
  · subst recalls
    exact ⟨_, _, rfl, fun f v _ => profileRecall_inbound f v⟩
  by_cases pixels : c = .pixels
  · subst pixels
    exact ⟨_, _, rfl, fun f v _ => pixels_inbound f v⟩
  obtain ⟨mine, handle, event, answers⟩ := row_answers kind ⟨reset, recalls, pixels⟩
  exact ⟨mine, handle, event, fun f v isMine => (answers f v isMine).inbound⟩

theorem isResolve_eq_true {a : Nat} (kind : f.kind = 0x24) (action : f.action = a ∨ 4 < f.action) :
    isResolve a f = true := by
  rw [isResolve, Bool.and_eq_true, Bool.or_eq_true, beq_iff_eq, beq_iff_eq, Bool.not_eq_true',
    actionNamed, decide_eq_false_iff_not, not_le]
  exact ⟨kind, action⟩

/-- Some row takes every frame of a request kind (R169, log 9). -/
theorem request_due (ready : s.decoderReady = true) (head : s.inbound = f :: rest)
    (kind : requestKind c = some f.kind) :
    ∃ c u, requestKind c = some f.kind ∧ eventOf c s = some u := by
  have taken {c : Instr} {mine : Frame → Bool} {handle : Frame → State → State}
      (kind : requestKind c = some f.kind) (event : eventOf c = takeHead mine handle)
      (isMine : mine f = true) : ∃ c u, requestKind c = some f.kind ∧ eventOf c s = some u :=
    ⟨c, _, kind, event ▸ takeHead_eq_some.mpr ⟨ready, f, rest, head, isMine, rfl⟩⟩
  by_cases resolve : f.kind = 0x24
  · have named : requestKind .accept = some f.kind := congrArg some resolve.symm
    have action : f.action = 0 ∨ f.action = 1 ∨ f.action = 2 ∨ f.action = 3 ∨ f.action = 4 ∨
        4 < f.action := by omega
    obtain action | action | action | action | action | action := action
    · exact taken (c := .accept) named rfl (isResolve_eq_true resolve (.inl action))
    · exact taken (c := .retry) named rfl (isResolve_eq_true resolve (.inl action))
    · exact taken (c := .degrade) named rfl (isResolve_eq_true resolve (.inl action))
    · exact taken (c := .drop) named rfl (isResolve_eq_true resolve (.inl action))
    · exact taken (c := .continueJob) named rfl (isResolve_eq_true resolve (.inl action))
    · exact taken (c := .accept) named rfl (isResolve_eq_true resolve (.inr action))
  · have byKind : isKind f.kind f = true := beq_self_eq_true _
    cases row_form kind resolve with
    | device length owner event => exact taken kind event byKind
    | profile ok owner event => exact taken kind event byKind
    | job ok owner event => exact taken kind event byKind
    | pixels event => exact taken kind event byKind

theorem known_of_contains {k : Byte} (known : requestKinds.contains k = true) :
    ∃ c, requestKind c = some k := by
  have all : ∀ k ∈ requestKinds, ∃ c ∈ ([.inquire, .softReset, .linkSet, .linkClear, .linkStatus,
      .profileWrite, .profileCommit, .profileRead, .profileSave, .profileRecall, .jobOpen, .jobStart,
      .jobPause, .jobResume, .accept, .jobAbort, .jobClose, .jobStatus, .clearFlags, .setEnables,
      .retime, .pixels] : List Instr), requestKind c = some k := by decide
  obtain ⟨c, -, kind⟩ := all k (List.contains_iff_mem.mp known)
  exact ⟨c, kind⟩

end

/-- Settles O16. -/
theorem decoderRefusals : Obligations.DecoderRefusals := by
  intro s f rest ready head
  have unknown (other : ∀ c, requestKind c ≠ some f.kind) :
      exec .unknownKind s = .next (State.settle (s.took rest (replyTo f 0x10 []))) := by
    refine exec_refused (handle := fun f s => s.answer f .unknownKind []) ready head rfl rfl ?_ rfl rfl
    rw [isUnknownKind, Bool.not_eq_true', Bool.eq_false_iff]
    exact fun known => (known_of_contains known).elim other
  refine ⟨?_, unknown, fun c kind other => ?_⟩
  · by_cases known : ∃ c, requestKind c = some f.kind
    · obtain ⟨c, kind⟩ := known
      obtain ⟨c, u, kind, due⟩ := request_due ready head kind
      obtain ⟨-, -, -, -, row⟩ := requestKind_row kind
      obtain ⟨mine, handle, event, inbound⟩ := request_row kind
      have powered := ((decoderReady_iff s).mp ready).1
      refine ⟨c, u.settle, (row s).trans (congrArg _ (occur_some powered due)), ?_⟩
      rw [event] at due
      obtain ⟨-, f', rest', head', isMine, rfl⟩ := takeHead_eq_some.mp due
      rw [head] at head'
      cases head'
      exact (settle_inbound _).trans (inbound f _ isMine)
    · exact ⟨_, _, unknown (not_exists.mp known), settle_inbound _⟩
  · obtain ⟨-, -, -, -, row⟩ := requestKind_row kind
    have byKind : isKind f.kind f = true := beq_self_eq_true _
    cases row_form kind other with
    | device length owner event fits range =>
      refine ⟨fun bad => ?_, fun good => ⟨fun _ unit => ?_, fun low => ?_, fun low => ?_⟩⟩
      · exact exec_refused ready head (row s) event byKind
          (withLength_refused ((fits _).symm.trans bad)) rfl
      · exact exec_refused ready head (row s) event byKind
          (deviceRequest_refused ((fits _).symm.trans good) unit) rfl
      · omega
      · omega
    | profile ok owner event fits range =>
      refine ⟨fun bad => ?_, fun good => ⟨fun high => ?_, fun _ _ unit => ?_, fun low => ?_⟩⟩
      · exact exec_refused ready head (row s) event byKind
          (withLength_refused ((fits _).symm.trans bad)) rfl
      · omega
      · exact exec_refused ready head (row s) event byKind
          (profileRequest_refused ((fits _).symm.trans good) unit) rfl
      · omega
    | job ok owner event fits range =>
      refine ⟨fun bad => ?_, fun good => ⟨fun high => ?_, fun _ high => ?_, fun _ _ unit => ?_⟩⟩
      · exact exec_refused ready head (row s) event byKind
          (withLength_refused ((fits _).symm.trans bad)) rfl
      · omega
      · omega
      · exact exec_refused ready head (row s) event byKind
          (jobRequest_refused ((fits _).symm.trans good) unit) rfl
    | pixels event fits range =>
      rw [range]
      refine ⟨fun bad => ?_, fun good => ⟨fun high => absurd high (by decide),
        fun _ high => absurd high (by decide), fun _ high => absurd high (by decide)⟩⟩
      exact exec_refused ready head (row s) event byKind
        (withLength_refused ((fits _).symm.trans (by rw [range]; exact bad))) rfl

end Sys2Proof.Laws
end

/-! ## Profile requests (O12, O14, O15) -/

section
namespace Sys2Proof.Laws
open Sys2Proof.Machine

section
variable {s : State} {f : Frame} {rest : List Frame} {k : Fin 8} {c : Instr} {p : Profile}

theorem profileHead_eq (s : State) (k : Fin 8) :
    s.profileHead k = s.profileItems k (s.profiles[k]).content := by
  rw [State.profileHead, flagByte_single]
  rfl

theorem answerProfile_eq (s : State) (rest : List Frame) (k : Fin 8) (f : Frame) (code : ReplyCode)
    (more : List Byte) :
    State.answerProfile { s with inbound := rest } k f code more =
      s.took rest (replyTo f code.value
        (s.profileItems k (s.profiles[k]).content ++ more)) := by
  rw [State.answerProfile, answer_eq_took, profileHead_eq]
  rfl

theorem setContent_content (s : State) (k : Fin 8) (c : ProfileContent) :
    ((s.setContent k c).profiles[k]).content = c := by
  simp [State.setContent]

theorem answerProfile_setContent (s : State) (rest : List Frame) (k : Fin 8) (f : Frame)
    (c : ProfileContent) (code : ReplyCode) (more : List Byte) :
    State.answerProfile (State.setContent { s with inbound := rest } k c) k f code more =
      { s.took rest (replyTo f code.value (s.profileItems k c ++ more)) with
        profiles := s.profiles.set k { s.profiles[k] with content := c } } := by
  rw [State.answerProfile, profileHead_eq, setContent_content]
  rfl

/-- A profile request in order runs its owner (R144). -/
theorem exec_profile {kind : Byte} {ok : Nat → Bool} {owner : Fin 8 → Frame → State → State}
    {t : State} (row : exec c s = .next (occur (eventOf c) s))
    (event : eventOf c = takeHead (isKind kind) (profileRequest ok owner))
    (ready : s.decoderReady = true) (head : s.inbound = f :: rest) (kind_ : f.kind = kind)
    (size : ok f.payload.length = true) (unit : f.unit.toNat = k.val)
    (owned : owner k f { s with inbound := rest } = t) : exec c s = .next t.settle := by
  rw [row, event, ← owned]
  exact congrArg _ (profile_row ⟨ready, head, kind_, rfl⟩ size unit)

/-- The items of a slot whose save has begun (R149). -/
theorem beginSave_head (ready : (s.profiles[k]).content = .ready p) :
    (s.beginSave k p).profileHead k = [2, byte (s.inUse k), 1] := by
  have content : ((s.beginSave k p).profiles[k]).content = .ready p := by
    simpa [State.beginSave] using ready
  have flying : (s.beginSave k p).saveInFlight k = true := by
    simp [State.beginSave, State.saveInFlight]
  rw [State.profileHead, content, flying]
  rfl

theorem profileSaveTaken_ready (writable : k ≠ 0) (idle : s.saving = none)
    (ready : (s.profiles[k]).content = .ready p) :
    profileSaveTaken k f s =
      { s.beginSave k p with
        replies := s.replies ++ [replyTo f 0x00 [2, byte (s.inUse k), 1]] } := by
  rw [profileSaveTaken, if_neg writable, if_neg (by simp [idle])]
  simp only [ready]
  rw [State.answerProfile, beginSave_head ready]
  rfl

theorem setRecord_eq (s : State) (k : Fin 8) (r : StoreRecord) :
    s.setRecord k r = { s with store := (s.setRecord k r).store } := by
  unfold State.setRecord
  split <;> rfl

theorem saveCompletionEvent_saving {w : SaveWrite} (saving : s.saving = some w) (passes : Bool) :
    saveCompletionEvent passes s = some
      { s with
        store := (s.setRecord w.slot (recordAfterWrite (s.record w.slot) w.contents passes)).store
        saving := none
        profiles := s.profiles.set w.slot
          { s.profiles[w.slot] with lastSave := some (saveResultOf passes) }
        lastSave := some (w.slot, saveResultOf passes)
        marks := { s.marks with saveDone := true } } := by
  rw [saveCompletionEvent, saving]
  simp only
  rw [setRecord_eq]

end

/-- Settles O12. -/
theorem saveAndRecall : Obligations.SaveAndRecall := by
  refine ⟨fun s f rest k taking unit writable unused idle => ?_,
    fun s f rest k p taking unit writable idle ready => ?_,
    fun s w passes powered saving writable => ?_⟩
  · refine congrArg _ ((profile_row taking rfl unit).trans (congrArg _ ?_))
    refine (if_neg writable).trans ((if_neg ?_).trans (if_neg ?_))
    · exact Nat.not_lt.mpr unused.le
    · exact Bool.not_eq_true _ ▸ idle
  · refine congrArg _ ((profile_row taking rfl unit).trans (congrArg _ ?_))
    exact profileSaveTaken_ready (s := { s with inbound := rest }) writable idle ready
  · refine ⟨_, congrArg _ (occur_some powered (saveCompletionEvent_saving saving passes)), rfl, ?_⟩
    have record (i : Fin 8) : State.record (s.setRecord w.slot
        (recordAfterWrite (s.record w.slot) w.contents passes)) i =
          if i = w.slot then recordAfterWrite (s.record w.slot) w.contents passes
          else s.record i := setRecord_record s w.slot i _ writable
    obtain ⟨good, bad⟩ := recordAfterWrite_spec (s.record w.slot) w.contents passes
    refine ⟨fun passed => ?_, fun failed => ?_, fun i _ other => ?_⟩
    · exact (record w.slot).trans ((if_pos rfl).trans (good passed))
    · have broken := bad failed
      rw [← (record w.slot).trans (if_pos rfl)] at broken
      exact broken
    · exact (record i).trans (if_neg other)

/-! ### PROFILE WRITE, case by case (R144, R145) -/

/-- The slot may be written: not slot 0, not in use, no save in flight (R144). -/
structure Writable (s : State) (k : Fin 8) : Prop where
  writable : k ≠ 0
  unused : s.inUse k = 0
  idle : s.saveInFlight k = false

section
variable {s : State} {f : Frame} {k : Fin 8}

theorem profileWriteTaken_of_writable (h : Writable s k) :
    profileWriteTaken k f s =
      match groupLengthOk (field f.payload 0 1) f.payload.length with
      | none => s.answerProfile k f .badField [0]
      | some false => s.answerProfile k f .badLength []
      | some true =>
        match writeGroup (s.profiles[k]).content.orFactory f.payload with
        | .error offset => s.answerProfile k f .badField [byte offset]
        | .ok w =>
          (s.setContent k (.draft w.settings)).answerProfile k f (clampCode w.clamped)
            (groupReport w.settings f.payload) := by
  refine (if_neg h.writable).trans ((if_neg (Nat.not_lt.mpr h.unused.le)).trans (if_neg ?_))
  rw [h.idle]
  decide

theorem profileWriteTaken_group (h : Writable s k)
    (group : groupLengthOk (field f.payload 0 1) f.payload.length = none) :
    profileWriteTaken k f s = s.answerProfile k f .badField [0] := by
  rw [profileWriteTaken_of_writable h, group]

theorem profileWriteTaken_length (h : Writable s k)
    (length : groupLengthOk (field f.payload 0 1) f.payload.length = some false) :
    profileWriteTaken k f s = s.answerProfile k f .badLength [] := by
  rw [profileWriteTaken_of_writable h, length]

theorem profileWriteTaken_field (h : Writable s k) {offset : Nat}
    (length : groupLengthOk (field f.payload 0 1) f.payload.length = some true)
    (bad : writeGroup (s.profiles[k]).content.orFactory f.payload = .error offset) :
    profileWriteTaken k f s = s.answerProfile k f .badField [byte offset] := by
  rw [profileWriteTaken_of_writable h, length]
  simp only [bad]

theorem profileWriteTaken_written (h : Writable s k) {w : GroupWrite}
    (length : groupLengthOk (field f.payload 0 1) f.payload.length = some true)
    (written : writeGroup (s.profiles[k]).content.orFactory f.payload = .ok w) :
    profileWriteTaken k f s =
      (s.setContent k (.draft w.settings)).answerProfile k f (clampCode w.clamped)
        (groupReport w.settings f.payload) := by
  rw [profileWriteTaken_of_writable h, length]
  simp only [written]

/-! ### The group's length and fields (R174) -/

theorem field_cons (b : Byte) (bs : List Byte) : field (b :: bs) 0 1 = b.toNat := by
  simp [field, leNat]

theorem groupLengthOk_unknown {group length : Nat} (h : 4 ≤ group) :
    groupLengthOk group length = none := by
  match group, h with
  | n + 4, _ => rfl

theorem zoneOfCode_unknown {z : Nat} (h : 5 ≤ z) : zoneOfCode z = none := by
  match z, h with
  | n + 5, _ => rfl

theorem zoneOfCode_known {z : Nat} (h : z ≤ 4) : ∃ zone, zoneOfCode z = some zone := by
  match z, h with
  | 0, _ => exact ⟨_, rfl⟩
  | 1, _ => exact ⟨_, rfl⟩
  | 2, _ => exact ⟨_, rfl⟩
  | 3, _ => exact ⟨_, rfl⟩
  | 4, _ => exact ⟨_, rfl⟩

theorem roundingOf_unknown {m : Nat} (h : 3 ≤ m) : roundingOf m = none := by
  match m, h with
  | n + 3, _ => rfl

theorem writeZone_badZone {old : Profile} {z w c m : Byte} (bad : 5 ≤ z.toNat) :
    writeGroup old [1, z, w, c, m] = .error 1 := by
  have code : zoneOfCode (field [1, z, w, c, m] 1 1) = none := zoneOfCode_unknown bad
  have group : writeGroup old [1, z, w, c, m] = writeZone old [1, z, w, c, m] := rfl
  rw [group, writeZone, code]

theorem writeZone_badMode {old : Profile} {z w c m : Byte} (good : z.toNat ≤ 4)
    (bad : 3 ≤ m.toNat) : writeGroup old [1, z, w, c, m] = .error 4 := by
  obtain ⟨zone, named⟩ := zoneOfCode_known good
  have code : zoneOfCode (field [1, z, w, c, m] 1 1) = some zone := named
  have mode : roundingOf (field [1, z, w, c, m] 4 1) = none := roundingOf_unknown bad
  have group : writeGroup old [1, z, w, c, m] = writeZone old [1, z, w, c, m] := rfl
  rw [group, writeZone, code]
  simp only [mode]

end

/-- Settles O14: each refusal is the first check that fails. -/
theorem profileRefusals : Obligations.ProfileRefusals := by
  intro s f rest k ready head unit refused
  generalize state : ({ s with inbound := rest } : State) = s'
  have answered (code : ReplyCode) (more : List Byte) :
      s'.answerProfile k f code more =
        s.took rest (replyTo f code.value (s.profileItems k (s.profiles[k]).content ++ more)) :=
    state ▸ answerProfile_eq ..
  have kept : s'.inUse k = s.inUse k ∧ s'.saveInFlight k = s.saveInFlight k ∧
      s'.saving = s.saving ∧ s'.profiles = s.profiles := state ▸ ⟨rfl, rfl, rfl, rfl⟩
  obtain ⟨inUse, saveInFlight, saving, profiles⟩ := kept
  refine ⟨fun kind small large => ?_, fun kind size empty => ?_, fun kind size => ?_,
    fun kind size => ?_⟩
  · have row (code : ReplyCode) {value : Byte} {more : List Byte}
        (owned : profileWriteTaken k f s' = s'.answerProfile k f code more)
        (named : code.value = value) : refused .profileWrite value more := by
      subst named
      exact exec_profile rfl rfl ready head kind (by simp [small, large]) unit
        ((congrArg _ state).trans (owned.trans (answered code more)))
    refine ⟨fun zero => row .protectedSlot (if_pos zero) rfl, fun some_ used => ?_,
      fun some_ unused busy => ?_, fun some_ unused idle => ?_⟩
    · refine row .profileInUse ((if_neg some_).trans (if_pos ?_)) rfl
      rwa [inUse]
    · refine row .busy ((if_neg some_).trans ((if_neg ?_).trans (if_pos ?_))) rfl
      · omega
      · rw [saveInFlight, busy]
    · have writable : Writable s' k := ⟨some_, inUse.trans unused, saveInFlight.trans idle⟩
      refine ⟨fun g vs payload => ?_, fun z w c m payload => ?_⟩
      · have group : field f.payload 0 1 = g.toNat := by rw [payload, field_cons]
        have length : f.payload.length = vs.length + 1 := by rw [payload, List.length_cons]
        have short {ok : Bool} (checked : groupLengthOk g.toNat (vs.length + 1) = some ok)
            (bad : ok = false) : refused .profileWrite 0x11 [] := by
          subst bad
          exact row .badLength (profileWriteTaken_length writable (by rw [group, length, checked])) rfl
        refine ⟨fun unknown => ?_, fun zero bad => ?_, fun one bad => ?_, fun two bad => ?_,
          fun three bad => ?_⟩
        · refine row .badField (profileWriteTaken_group writable ?_) rfl
          rw [group]
          exact groupLengthOk_unknown unknown
        · subst zero
          exact short rfl (by simpa using bad)
        · subst one
          exact short rfl (by simpa using bad)
        · subst two
          exact short rfl (by simpa using bad)
        · subst three
          exact short rfl (by simp [bad])
      · have length : groupLengthOk (field f.payload 0 1) f.payload.length = some true := by
          rw [payload]
          rfl
        refine ⟨fun bad => ?_, fun good bad => ?_⟩
        · refine row .badField (profileWriteTaken_field writable length (offset := 1) ?_) rfl
          rw [payload]
          exact writeZone_badZone bad
        · refine row .badField (profileWriteTaken_field writable length (offset := 4) ?_) rfl
          rw [payload]
          exact writeZone_badMode good bad
  · refine exec_profile rfl rfl ready head kind (by rw [size]; rfl) unit
      ((congrArg _ state).trans (Eq.trans ?_ (answered .profileEmpty [])))
    unfold profileCommitTaken
    simp only [profiles, empty]
  · have row (code : ReplyCode) {value : Byte}
        (owned : profileSaveTaken k f s' = s'.answerProfile k f code [])
        (named : code.value = value) : refused .profileSave value [] := by
      subst named
      exact exec_profile rfl rfl ready head kind (by rw [size]; rfl) unit
        ((congrArg _ state).trans (owned.trans (answered code [])))
    refine ⟨fun zero => row .protectedSlot (if_pos zero) rfl, fun some_ busy => ?_,
      fun some_ idle unready => ?_⟩
    · refine row .busy ((if_neg some_).trans (if_pos ?_)) rfl
      rwa [saving]
    · refine row .profileNotReady ((if_neg some_).trans ((if_neg (by simp [saving, idle])).trans ?_))
        rfl
      split
      · next p ready' =>
        rw [profiles] at ready'
        rw [ready'] at unready
        cases unready
      · rfl
  · have row (code : ReplyCode) {value : Byte}
        (owned : profileRecallTaken k f s' = s'.answerProfile k f code [])
        (named : code.value = value) : refused .profileRecall value [] := by
      subst named
      exact exec_profile rfl rfl ready head kind (by rw [size]; rfl) unit
        ((congrArg _ state).trans (owned.trans (answered code [])))
    refine ⟨fun zero => row .protectedSlot (if_pos zero) rfl, fun some_ used => ?_,
      fun some_ unused busy => ?_⟩
    · refine row .profileInUse ((if_neg some_).trans (if_pos ?_)) rfl
      rwa [inUse]
    · refine row .busy ((if_neg some_).trans ((if_neg ?_).trans (if_pos ?_))) rfl
      · omega
      · rw [saveInFlight, busy]

/-! ### COMMIT and READ -/

theorem commitFailure_of_inconsistent {p : Profile} (bad : ¬p.Consistent) :
    commitFailure p = some (if p.tHi ≤ p.tLo then 3 else if p.uHi < p.uLo then 7 else 11) := by
  unfold Profile.Consistent at bad
  unfold commitFailure
  split_ifs with t u v
  · rfl
  · rfl
  · rfl
  · omega

theorem commitFailure_of_consistent {p : Profile} (good : p.Consistent) :
    commitFailure p = none := by
  obtain ⟨t, u, v⟩ := good
  rw [commitFailure, if_neg (Nat.not_le.mpr t), if_neg (not_lt.mpr u), if_neg (not_lt.mpr v)]

theorem saveResultByte_eq (o : Option SaveResult) :
    saveResultByte o =
      match o with
      | none => 0xFF
      | some .ok => 0x00
      | some .storeFault => 0x24 := by
  cases o with
  | none => rfl
  | some r => cases r <;> rfl

/-- Settles O15. -/
theorem profileCommitAndRead : Obligations.ProfileCommitAndRead := by
  intro s f rest k unit
  refine ⟨fun taking => ⟨fun p content => ?_, fun p content => ⟨fun good => ?_, fun bad => ?_⟩⟩,
    fun taking => ?_⟩
  · refine congrArg _ ((profile_row taking rfl unit).trans (congrArg _ ?_))
    unfold profileCommitTaken
    simp only [content]
    rw [answerProfile_eq, content, List.append_nil]
    rfl
  · refine congrArg _ ((profile_row taking rfl unit).trans (congrArg _ ?_))
    unfold profileCommitTaken
    simp only [content, commitFailure_of_consistent good]
    rw [answerProfile_setContent, List.append_nil]
    rfl
  · refine congrArg _ ((profile_row taking rfl unit).trans (congrArg _ ?_))
    unfold profileCommitTaken
    simp only [content, commitFailure_of_inconsistent bad]
    rw [answerProfile_eq, content]
    split_ifs <;> rfl
  · refine congrArg _ ((profile_row taking rfl unit).trans (congrArg _ ?_))
    rw [profileReadTaken, answerProfile_eq, saveResultByte_eq]
    simp only [← report_eq]
    cases (s.profiles[k]).content <;> rfl

end Sys2Proof.Laws
end

/-! ## Record reads (O11) -/

section
namespace Sys2Proof.Laws
open Sys2Proof.Machine

section
variable {s v : State} {l : StartupLoad} {k : Fin 8} {p : Profile} {passes : Bool}
  {attempts : Nat}

/-! ### What a read of a record finds (R148) -/

theorem readRecord_of_reads {r : StoreRecord} (good : r.reads passes = some p) :
    readRecord r passes = .contents p true := by
  obtain ⟨rfl, -⟩ | ⟨p', reads, read⟩ | ⟨p', -, bad, -⟩ := readRecord_cases r passes
  · cases good
  · rw [good] at reads
    cases reads
    exact read
  · rw [good] at bad
    cases bad

theorem readRecord_of_bad {r : StoreRecord} (bad : r.reads passes = none) (written : r ≠ .blank) :
    ∃ p, readRecord r passes = .contents p false := by
  obtain ⟨blank, -⟩ | ⟨p', reads, -⟩ | ⟨p', -, -, read⟩ := readRecord_cases r passes
  · exact absurd blank written
  · rw [bad] at reads
    cases reads
  · exact ⟨p', read⟩

/-! ### A read of the start-up load (R152) -/

theorem loadRead_good (good : (s.record l.slot).reads passes = some p) :
    s.loadRead l passes = (s.setContent l.slot (.ready p)).loadNext l.slot := by
  unfold State.loadRead
  rw [readRecord_of_reads good]

theorem loadRead_blank (blank : s.record l.slot = .blank) :
    s.loadRead l passes = (s.setContent l.slot .empty).loadNext l.slot := by
  unfold State.loadRead
  rw [blank]
  rfl

theorem loadRead_bad (bad : (s.record l.slot).reads passes = none)
    (written : s.record l.slot ≠ .blank) :
    s.loadRead l passes =
      if l.attempts + 1 < 4 then
        { s with startup := some { slot := l.slot, attempts := l.attempts + 1 } }
      else
        { s.setContent l.slot .empty with
          failedSlots := s.failedSlots ||| jobBit l.slot }.loadNext l.slot := by
  obtain ⟨p, read⟩ := readRecord_of_bad bad written
  unfold State.loadRead
  rw [read]
  rfl

theorem loadNext_frame (v : State) (k : Fin 8) :
    v.loadNext k = { v with startup := (v.loadNext k).startup, marks := (v.loadNext k).marks } := by
  unfold State.loadNext
  split <;> rfl

theorem loadNext_goesOn (marks : v.marks = s.marks) (k : Fin 8) :
    loadGoesOn s (v.loadNext k) k := by
  unfold State.loadNext loadGoesOn
  split
  · next more =>
    refine ⟨fun k' next => ⟨?_, marks⟩, fun last => ?_⟩
    · have same : (⟨k.val + 1, more⟩ : Fin 8) = k' := Fin.ext next.symm
      simp only [same]
    · subst last
      exact absurd more (by decide)
  · next last =>
    refine ⟨fun k' next => ?_, fun _ => ⟨rfl, ?_⟩⟩
    · omega
    · simp only [marks]

/-! ### A read of a RECALL (R151) -/

theorem endRecall_eq (s : State) (k : Fin 8) (code : ReplyCode) (more : List Byte) :
    s.endRecall k code more =
      { s with
        inHand := .nothing
        replies := s.replies ++
          [{ kind := 0x80, unit := byte k.val
             payload :=
              [0x14, code.value] ++ (s.profileItems k (s.profiles[k]).content ++ more) }] } := by
  rw [State.endRecall, profileHead_eq]
  rfl

theorem recallRead_good (good : (s.record k).reads passes = some p) :
    s.recallRead k attempts passes = (s.setContent k (.ready p)).endRecall k .ok p.nameReport := by
  unfold State.recallRead
  rw [readRecord_of_reads good]

theorem recallRead_blank (blank : s.record k = .blank) :
    s.recallRead k attempts passes = s.endRecall k .profileEmpty [] := by
  unfold State.recallRead
  rw [blank]
  rfl

theorem recallRead_bad (bad : (s.record k).reads passes = none) (written : s.record k ≠ .blank) :
    s.recallRead k attempts passes =
      if attempts + 1 < 4 then { s with inHand := .recall k (attempts + 1) }
      else s.endRecall k .storeFault [] := by
  obtain ⟨p, read⟩ := readRecord_of_bad bad written
  unfold State.recallRead
  rw [read]
  rfl

end

/-- A read of the start-up load changes one slot's content, and the load's own state (R152). -/
structure LoadStep (s : State) (k : Fin 8) (v : State) : Prop where
  frame : v = { s with profiles := v.profiles, startup := v.startup, failedSlots := v.failedSlots,
                       marks := v.marks }
  others : ∀ i : Fin 8, i ≠ k → v.profiles[i] = s.profiles[i]
  lastSave : (v.profiles[k]).lastSave = (s.profiles[k]).lastSave

theorem loadNext_loadStep (s : State) (k : Fin 8) (c : ProfileContent) (failed : BitVec 8) :
    LoadStep s k ({ s.setContent k c with failedSlots := failed }.loadNext k) := by
  have profiles : ({ s.setContent k c with failedSlots := failed }.loadNext k).profiles =
      (s.setContent k c).profiles := by
    unfold State.loadNext
    split <;> rfl
  refine ⟨?_, fun i other => ?_, ?_⟩
  · unfold State.loadNext
    split <;> rfl
  · have apart : k.val ≠ i.val := fun same => other (Fin.ext same.symm)
    rw [profiles]
    simp [State.setContent, apart]
  · rw [profiles]
    simp [State.setContent]

theorem loadRead_loadStep (s : State) (l : StartupLoad) (passes : Bool) :
    LoadStep s l.slot (s.loadRead l passes) := by
  unfold State.loadRead
  split
  · exact loadNext_loadStep s l.slot .empty s.failedSlots
  · exact loadNext_loadStep s l.slot _ s.failedSlots
  · split_ifs
    · exact ⟨rfl, fun _ _ => rfl, rfl⟩
    · exact loadNext_loadStep s l.slot .empty _

/-- Settles O11. -/
theorem storeReads : Obligations.StoreReads := by
  refine ⟨fun s l passes powered loading writable => ?_,
    fun s k attempts passes powered idle recalling => ?_⟩
  · have due : recordReadEvent passes s = some (s.loadRead l passes) := by
      rw [recordReadEvent, loading]
    obtain ⟨frame, others, lastSave⟩ := loadRead_loadStep s l passes
    refine ⟨_, congrArg _ (occur_some powered due), frame, others,
      lastSave, fun p good => ?_, fun blank => ?_, fun bad written => ⟨fun more => ?_,
        fun last => ?_⟩⟩
    · rw [loadRead_good good]
      refine ⟨?_, ?_, loadNext_goesOn rfl l.slot⟩
      · rw [loadNext_frame]
        exact setContent_content s l.slot (.ready p)
      · rw [loadNext_frame]
        rfl
    · rw [loadRead_blank blank]
      refine ⟨?_, ?_, loadNext_goesOn rfl l.slot⟩
      · rw [loadNext_frame]
        exact setContent_content s l.slot .empty
      · rw [loadNext_frame]
        rfl
    · rw [loadRead_bad bad written, if_pos more]
    · rw [loadRead_bad bad written, if_neg (by omega)]
      refine ⟨?_, ?_, loadNext_goesOn rfl l.slot⟩
      · rw [loadNext_frame]
        exact setContent_content s l.slot .empty
      · rw [loadNext_frame]
        rfl
  · have event {u : State} (read : s.recallRead k attempts passes = u) :
        exec (.recordRead passes) s = .next u.settle := by
      refine congrArg _ (occur_some powered ?_)
      rw [recordReadEvent, idle]
      simp only [recalling, read]
    refine ⟨fun blank => event ?_, fun p good => event ?_, fun bad written => event ?_⟩
    · rw [recallRead_blank blank, endRecall_eq, List.append_nil]
      rfl
    · rw [recallRead_good good, endRecall_eq, setContent_content]
      rfl
    · rw [recallRead_bad bad written, endRecall_eq, List.append_nil]
      rfl

end Sys2Proof.Laws
end

/-! ## PROFILE WRITE of each group (O13) -/

section
namespace Sys2Proof.Laws
open Sys2Proof.Machine

/-! ### Clamped values and their bytes (R145) -/

theorem clampStep (b : Byte) : clampNat 1 255 b.toNat = max 1 b.toNat := by
  have := b.isLt
  unfold clampNat
  omega

theorem clamped_iff (lo hi n : Nat) (ordered : lo ≤ hi) :
    (clampNat lo hi n != n) = decide (n < lo ∨ hi < n) := by
  rw [Bool.eq_iff_iff, bne_iff_ne, decide_eq_true_iff]
  unfold clampNat
  omega

theorem clampedInt_iff (lo hi n : Int) (ordered : lo ≤ hi) :
    (clampInt lo hi n != n) = decide (n < lo ∨ hi < n) := by
  rw [Bool.eq_iff_iff, bne_iff_ne, decide_eq_true_iff]
  unfold clampInt
  omega

/-! ### The STEPS group -/

theorem writeSteps_eq (old : Profile) (b1 b2 b3 b4 b5 b6 b7 b8 : Byte) :
    writeGroup old [0, b1, b2, b3, b4, b5, b6, b7, b8] = .ok
      { settings :=
          { old with
            y :=
              { dc := max 1 b1.toNat, s3 := max 1 b2.toNat, s2 := max 1 b3.toNat
                s1 := max 1 b4.toNat }
            c :=
              { dc := max 1 b5.toNat, s3 := max 1 b6.toNat, s2 := max 1 b7.toNat
                s1 := max 1 b8.toNat } }
        clamped := [b1, b2, b3, b4, b5, b6, b7, b8].contains 0 } := by
  have zeros : (([0, b1, b2, b3, b4, b5, b6, b7, b8] : List Byte).drop 1 |>.take 8).any (· == 0) =
      [b1, b2, b3, b4, b5, b6, b7, b8].contains 0 := by
    rw [List.contains_eq_any_beq]
    simp only [BEq.comm (a := (0 : Byte))]
    rfl
  simp only [← clampStep, ← zeros]
  rfl

/-! ### The ZONE group -/

theorem zone_setZone (p : Profile) (z : Zone) (v : ZoneSettings) : (p.setZone z v).zone z = v := by
  cases z <;> rfl

theorem zoneOfCode_code (z : Zone) : zoneOfCode (byte z.code).toNat = some z := by
  cases z <;> rfl

theorem roundingOf_code (m : Rounding) : roundingOf m.code.toNat = some m := by
  cases m <;> rfl

/-! ### The THRESHOLDS group -/

theorem signedBytes_of_byte {n : Nat} (small : n ≤ 255) : signedBytes (n : Int) = leBytes 2 n := by
  have value : (BitVec.ofInt 16 (n : Int)).toNat = n := by
    rw [BitVec.ofInt_natCast, BitVec.toNat_ofNat]
    omega
  rw [signedBytes, value]

section
variable {old : Profile} {z : Zone} {m : Rounding} {w c : Byte}

theorem writeZone_eq :
    writeGroup old [1, byte z.code, w, c, m.code] = .ok
      { settings := old.setZone z
          { weight := max 8 (min 64 w.toNat), ceiling := min 63 c.toNat, rounding := m }
        clamped := decide (w.toNat < 8 ∨ 64 < w.toNat ∨ 63 < c.toNat) } := by
  have zone : zoneOfCode (field [1, byte z.code, w, c, m.code] 1 1) = some z := zoneOfCode_code z
  have mode : roundingOf (field [1, byte z.code, w, c, m.code] 4 1) = some m := roundingOf_code m
  have weight : field [1, byte z.code, w, c, m.code] 2 1 = w.toNat := rfl
  have ceiling : field [1, byte z.code, w, c, m.code] 3 1 = c.toNat := rfl
  have group : writeGroup old [1, byte z.code, w, c, m.code] =
      writeZone old [1, byte z.code, w, c, m.code] := rfl
  have floor : clampNat 0 63 c.toNat = min 63 c.toNat := Nat.max_eq_right (Nat.zero_le _)
  have clamped : (clampNat 8 64 w.toNat != w.toNat || min 63 c.toNat != c.toNat) =
      decide (w.toNat < 8 ∨ 64 < w.toNat ∨ 63 < c.toNat) := by
    rw [← floor, clamped_iff 8 64 _ (by decide), clamped_iff 0 63 _ (by decide),
      ← Bool.decide_or]
    exact decide_eq_decide.mpr (by omega)
  rw [group, writeZone, zone]
  simp only [mode, weight, ceiling, floor, clamped]
  rfl

theorem zone_report :
    groupReport (old.setZone z
        { weight := max 8 (min 64 w.toNat), ceiling := min 63 c.toNat, rounding := m })
        [1, byte z.code, w, c, m.code] =
      [byte z.code, byte (max 8 (min 64 w.toNat)), byte (min 63 c.toNat), m.code] := by
  have zone : zoneOfCode (field [1, byte z.code, w, c, m.code] 1 1) = some z := zoneOfCode_code z
  have group (p : Profile) : groupReport p [1, byte z.code, w, c, m.code] =
      match zoneOfCode (field [1, byte z.code, w, c, m.code] 1 1) with
      | some zone => byte zone.code :: p.zoneReport zone
      | none => [] := rfl
  rw [group, zone]
  simp only [Profile.zoneReport, zone_setZone]
  rfl

end

/-! ### The NAME/DEFAULT group -/

theorem writeName_eq (old : Profile) (i : Byte) (name : List Byte) :
    writeGroup old (3 :: i :: name) = .ok
      { settings := { old with startIndex := min 63 i.toNat, name := name.take 12 }
        clamped := decide (63 < i.toNat ∨ 12 < name.length) } := by
  have floor : min 63 i.toNat = clampNat 0 63 i.toNat := (Nat.max_eq_right (Nat.zero_le _)).symm
  rw [floor, Bool.decide_or]
  rfl

/-! ### The THRESHOLDS group, field by field -/

/-- The bytes of the seven values of the THRESHOLDS group (R174). -/
def thresholdBytes (v : Vector (BitVec 16) 7) : List Byte :=
  leBytes 2 v[0].toNat ++ leBytes 2 v[1].toNat ++ leBytes 2 v[2].toNat ++ leBytes 2 v[3].toNat ++
    leBytes 2 v[4].toNat ++ leBytes 2 v[5].toNat ++ leBytes 2 v[6].toNat

theorem thresholdBytes_eq (v : Vector (BitVec 16) 7) :
    v.toList.flatMap (fun x => leBytes 2 x.toNat) = thresholdBytes v := by
  have list : v.toList = [v[0], v[1], v[2], v[3], v[4], v[5], v[6]] := by
    refine List.ext_getElem (by simp) fun i inside inside' => ?_
    have small : i < 7 := by simpa using inside
    interval_cases i <;> simp
  rw [list]
  simp only [List.flatMap_cons, List.flatMap_nil, List.append_nil, thresholdBytes,
    List.append_assoc]

theorem signedField_eq {payload : List Byte} {offset : Nat} (x : BitVec 16)
    (bytes : (payload.drop offset).take 2 = leBytes 2 x.toNat) :
    signedField payload offset = x.toInt := by
  rw [signedField, field, bytes, leNat_leBytes_of_lt x.isLt, BitVec.ofNat_toNat, BitVec.setWidth_eq]

/-- The settings of a THRESHOLDS group after its clamps (R145). -/
def thresholdSettings (old : Profile) (v : Vector (BitVec 16) 7) : Profile :=
  { old with
    tHi := (max 0 (min 255 v[0].toInt) : Int).toNat
    tLo := (max 0 (min 255 v[1].toInt) : Int).toNat
    tSpan := (max 0 (min 255 v[2].toInt) : Int).toNat
    uLo := max (-255) (min 255 v[3].toInt)
    uHi := max (-255) (min 255 v[4].toInt)
    vLo := max (-255) (min 255 v[5].toInt)
    vHi := max (-255) (min 255 v[6].toInt) }

theorem writeThresholds_eq (old : Profile) (v : Vector (BitVec 16) 7) :
    writeGroup old (2 :: thresholdBytes v) = .ok
      { settings := thresholdSettings old v
        clamped :=
          [v[0], v[1], v[2]].any (fun x => decide (x.toInt < 0 ∨ 255 < x.toInt)) ||
            [v[3], v[4], v[5], v[6]].any (fun x => decide (x.toInt < -255 ∨ 255 < x.toInt)) } := by
  have f1 : signedField (2 :: thresholdBytes v) 1 = v[0].toInt := signedField_eq _ rfl
  have f3 : signedField (2 :: thresholdBytes v) 3 = v[1].toInt := signedField_eq _ rfl
  have f5 : signedField (2 :: thresholdBytes v) 5 = v[2].toInt := signedField_eq _ rfl
  have f7 : signedField (2 :: thresholdBytes v) 7 = v[3].toInt := signedField_eq _ rfl
  have f9 : signedField (2 :: thresholdBytes v) 9 = v[4].toInt := signedField_eq _ rfl
  have f11 : signedField (2 :: thresholdBytes v) 11 = v[5].toInt := signedField_eq _ rfl
  have f13 : signedField (2 :: thresholdBytes v) 13 = v[6].toInt := signedField_eq _ rfl
  have group : writeGroup old (2 :: thresholdBytes v) =
      .ok (writeThresholds old (2 :: thresholdBytes v)) := rfl
  rw [group, writeThresholds]
  simp only [thresholdAt, skinBoundAt, List.any_cons, List.any_nil, f1, f3, f5, f7, f9, f11, f13,
    clampedInt_iff 0 255 _ (by decide), clampedInt_iff (-255) 255 _ (by decide)]
  rfl

theorem thresholds_report (old : Profile) (v : Vector (BitVec 16) 7) :
    (thresholdSettings old v).thresholdsReport =
      [v[0], v[1], v[2]].flatMap (fun x => leBytes 2 (max 0 (min 255 x.toInt) : Int).toNat) ++
        [v[3], v[4], v[5], v[6]].flatMap
          (fun x => leBytes 2 (BitVec.ofInt 16 (max (-255) (min 255 x.toInt))).toNat) := by
  have small (x : Int) : (max 0 (min 255 x) : Int).toNat ≤ 255 := by omega
  simp only [Profile.thresholdsReport, thresholdSettings, signedBytes_of_byte (small _),
    List.flatMap_cons, List.flatMap_nil, List.append_nil, List.append_assoc]
  rfl

/-- A WRITE that passes its checks (R142, R145). -/
theorem exec_profileWrite {s : State} {f : Frame} {rest : List Frame} {k : Fin 8} {w : GroupWrite}
    (taking : Taking s f rest 0x10 f.payload.length) (unit : f.unit.toNat = k.val)
    (writable : Writable s k) (some_ : 1 ≤ f.payload.length) (small : f.payload.length ≤ 257)
    (length : groupLengthOk (field f.payload 0 1) f.payload.length = some true)
    (written : writeGroup ((s.profiles[k]).content.settings.getD factoryProfile) f.payload = .ok w) :
    exec .profileWrite s = .next (State.settle
      { s.took rest (replyTo f (okOrClamped w.clamped)
          ([1, 0, 0] ++ groupReport w.settings f.payload)) with
        profiles := s.profiles.set k { s.profiles[k] with content := .draft w.settings } }) := by
  obtain ⟨ready, head, kind, -⟩ := taking
  have items : s.profileItems k (.draft w.settings) = [1, 0, 0] := by
    rw [State.profileItems, writable.unused, writable.idle]
    rfl
  refine exec_profile rfl rfl ready head kind (by simp [some_, small]) unit ?_
  have writable' : Writable { s with inbound := rest } k :=
    ⟨writable.writable, writable.unused, writable.idle⟩
  rw [profileWriteTaken_written writable' length written, answerProfile_setContent, items,
    clampCode_value]

/-- Settles O13: each group replaces its own values, clamped. -/
theorem profileWriteGroups : Obligations.ProfileWriteGroups := by
  intro s f rest k old taking unit some_ unused idle settings
  subst settings
  have writable : Writable s k := ⟨some_, unused, idle⟩
  refine ⟨fun b1 b2 b3 b4 b5 b6 b7 b8 payload => ?_, fun z w c m payload => ?_,
    fun v payload => ?_, fun i name small payload => ?_⟩
  · refine (exec_profileWrite taking unit writable ?_ ?_ ?_
      (payload ▸ writeSteps_eq _ b1 b2 b3 b4 b5 b6 b7 b8)).trans ?_ <;> rw [payload]
    · exact Nat.le_add_left 1 8
    · exact Nat.le_of_ble_eq_true rfl
    · rfl
    · rfl
  · refine (exec_profileWrite taking unit writable ?_ ?_ ?_ (payload ▸ writeZone_eq)).trans ?_ <;>
      rw [payload]
    · exact Nat.le_add_left 1 4
    · exact Nat.le_of_ble_eq_true rfl
    · rfl
    · rw [zone_report]
      rfl
  · rw [thresholdBytes_eq] at payload
    refine (exec_profileWrite taking unit writable ?_ ?_ ?_
      (payload ▸ writeThresholds_eq _ v)).trans ?_ <;> rw [payload]
    · exact Nat.le_add_left 1 14
    · exact Nat.le_of_ble_eq_true rfl
    · rfl
    · have report : groupReport (thresholdSettings
          ((s.profiles[k]).content.settings.getD factoryProfile) v) (2 :: thresholdBytes v) =
          Profile.thresholdsReport _ := rfl
      rw [report, thresholds_report, List.append_assoc]
      rfl
  · have long : f.payload.length = name.length + 2 := by rw [payload]; rfl
    refine (exec_profileWrite taking unit writable (by omega) (by omega) ?_
      (payload ▸ writeName_eq _ i name)).trans ?_
    · rw [long, payload]
      simp [field, leNat, groupLengthOk, small]
    · rw [payload]
      rfl

end Sys2Proof.Laws
end

/-! ## Ticks and expiries (O40) -/

section
namespace Sys2Proof.Laws
open Sys2Proof.Machine

/-- Settles O40: the event of each is due, and its context is that of the statements. -/
theorem ticksAndExpiries : Obligations.TicksAndExpiries := by
  intro s j powered running
  have last (one : (s.job j).timer.count = 1) : (s.job j).timer.expiresNext = true := by
    rw [Timer.expiresNext, running, one]
    rfl
  refine ⟨fun mode one => ?_, fun mode one => ?_, fun more => ?_⟩
  · refine congrArg _ (occur_some powered ((if_pos ⟨last one, mode⟩).trans (congrArg some ?_)))
    rw [← pacedExpiry_eq]
    rfl
  · refine congrArg _ (occur_some powered ((if_pos ⟨last one, mode⟩).trans (congrArg some ?_)))
    rw [← pageExpiry_eq]
    rfl
  · exact congrArg _ (occur_some powered (if_pos ⟨running, more⟩))

end Sys2Proof.Laws
end

/-! ## Job requests: states, START, PAUSE, RESUME, ABORT, CLOSE (O25, O26, O27) -/

section
namespace Sys2Proof.Laws
open Sys2Proof.Machine

section
variable {s : State} {f : Frame} {rest : List Frame} {j : Fin 8} {c : Instr}

/-- A job request in order runs its owner (R61). -/
theorem exec_job {kind : Byte} {length : Nat} {ok : Nat → Bool}
    {owner : Fin 8 → Frame → State → State} {t : State} (row : exec c s = .next (occur (eventOf c) s))
    (event : eventOf c = takeHead (isKind kind) (jobRequest ok owner))
    (taking : Taking s f rest kind length) (size : ok length = true) (unit : f.unit.toNat = j.val)
    (owned : owner j f { s with inbound := rest } = t) : exec c s = .next t.settle := by
  rw [row, event, ← owned]
  exact congrArg _ (job_row taking size unit)

theorem refuseJob_eq (s : State) (rest : List Frame) (j : Fin 8) (f : Frame) (code : ReplyCode)
    (more : List Byte) :
    State.refuseJob { s with inbound := rest } j f code more =
      s.took rest (replyTo f code.value ((s.job j).state.code :: more)) := rfl

theorem answer_setJob (s : State) (rest : List Frame) (j : Fin 8) (v : Job) (f : Frame)
    (code : ReplyCode) (data : List Byte) :
    State.answer (State.setJob { s with inbound := rest } j v) f code data =
      (s.took rest (replyTo f code.value data)).setJob j v := rfl

theorem setJob_self (s : State) (j : Fin 8) : s.setJob j (s.job j) = s := by
  rw [State.setJob, State.job]
  simp

/-- A move of one context, answered with the state it leaves (R61). -/
theorem modifyJob_answered {g : Job → Job} {v : Job} {code : Byte} (became : g (s.job j) = v)
    (named : v.state.code = code) :
    State.answerState (State.modifyJob { s with inbound := rest } j g) j f =
      (s.took rest (replyTo f 0x00 [code])).setJob j v := by
  subst became named
  rw [State.answerState, State.modifyJob, job_setJob_same]
  rfl

/-- A context that does not move is answered with its state (R61). -/
theorem unmoved_answered {g : Job → Job} {code : Byte} (same : g (s.job j) = s.job j)
    (named : (s.job j).state.code = code) :
    State.answerState (State.modifyJob { s with inbound := rest } j g) j f =
      s.took rest (replyTo f 0x00 [code]) :=
  (modifyJob_answered same named).trans (setJob_self (s.took rest _) j)

/-! ### The moves of a context -/

theorem timer_start_eq (t : Timer) :
    t.start = if t.mode = .off then t else { t.began t.interval with running := true } := by
  obtain ⟨off, same⟩ | ⟨on, begun⟩ := start_cases t
  · rw [if_pos off, same]
  · rw [if_neg on, begun]
    rfl

theorem goOn_last {v : Job} (last : v.emitted = v.bands) (paused : v.state = .paused) :
    v.goOn = { v.moved .done with timer := { v.timer with running := false, buffered := none } } := by
  rw [Job.goOn, if_pos last, Job.enterDone, enter_eq_moved (by simp [paused])]
  rfl

theorem goOn_more {v : Job} (more : v.emitted ≠ v.bands) (paused : v.state = .paused) :
    v.goOn = v.moved .running := by
  rw [Job.goOn, if_neg more, enter_eq_moved (by simp [paused])]

theorem takesPause_iff (st : JobState) :
    st.takesPause = (st == .running || st == .stopping .pause || st == .stopping .halt ||
      st == .paused) := by
  cases st with
  | stopping r => cases r <;> rfl
  | _ => rfl

theorem takesResume_iff (st : JobState) :
    st.takesResume = (st == .paused || st == .stopping .pause) := by
  cases st with
  | stopping r => cases r <;> rfl
  | _ => rfl

theorem takesEnables_iff (st : JobState) : st.takesEnables = (st != .free && st != .halted) := by
  cases st <;> rfl

/-- Leaving the lanes, as the statements write it (R76, R113). -/
theorem abandonPass_eq (j : Fin 8) (o : Option PassState) :
    abandonPass j o = o.filter fun p => p.job != j := by
  cases o with
  | none => rfl
  | some p =>
    by_cases mine : p.job = j
    · simp [abandonPass, Option.filter, mine]
    · simp [abandonPass, Option.filter, mine]

/-- A context emptied and answered: its lanes and slots are those of `freeContext` (R76, R78). -/
def State.emptied (s : State) (rest : List Frame) (reply : Frame) (j : Fin 8) : State :=
  { s.took rest reply with
    jobs := s.jobs.set j freeJob
    lanes := Vector.ofFn fun l => abandonPass j s.lanes[l]
    slots := Vector.ofFn fun k => leaveSlot j s.slots[k] }

theorem freeContext_answer (s : State) (rest : List Frame) (f : Frame) (j : Fin 8)
    (code : ReplyCode) (data : List Byte) :
    State.answer (State.freeContext { s with inbound := rest } j) f code data =
      State.emptied s rest (replyTo f code.value data) j := by
  unfold State.answer State.post State.freeContext State.setJob State.leaveAll State.emptied
  rfl

theorem emptied_lane (s : State) (rest : List Frame) (reply : Frame) (j : Fin 8) (l : Fin 2) :
    (State.emptied s rest reply j).lanes[l] = (s.lanes[l]).filter fun p => p.job != j := by
  simp [State.emptied, abandonPass_eq]

theorem emptied_slot (s : State) (rest : List Frame) (reply : Frame) (j : Fin 8) (k : Fin 24) :
    (State.emptied s rest reply j).slots[k] = slotWithout j s.slots[k] := by
  simp [State.emptied, leaveSlot_eq]

end

/-- Settles O25: each row's state check is its list of states. -/
theorem wrongStateRefused : Obligations.WrongStateRefused := by
  intro row known s f rest j taking unit untaken
  have live {v : Job} (h : (v.state != .free) = false) : v.state = .free := by simpa using h
  simp only [jobRows, List.mem_cons, List.not_mem_nil, or_false] at known
  obtain rfl | rfl | rfl | rfl | rfl | rfl | rfl := known
  · have closed : (s.job j).state ≠ .opened := by simpa using untaken
    exact exec_job rfl rfl taking rfl unit (if_pos closed)
  · have closed : ¬(s.job j).state.takesPause = true := by
      rw [takesPause_iff, Bool.not_eq_true]
      exact untaken
    exact exec_job rfl rfl taking rfl unit (if_neg closed)
  · have closed : ¬(s.job j).state.takesResume = true := by
      rw [takesResume_iff, Bool.not_eq_true]
      exact untaken
    exact exec_job rfl rfl taking rfl unit (if_neg closed)
  · exact exec_job rfl rfl taking rfl unit (if_pos (live untaken))
  · have closed : ¬((s.job j).state = .opened ∨ (s.job j).state = .done) := by simpa using untaken
    exact exec_job rfl rfl taking rfl unit (if_neg closed)
  · exact exec_job rfl rfl taking rfl unit (if_pos (live untaken))
  · have closed : ¬(s.job j).state.takesEnables = true := by
      rw [takesEnables_iff, Bool.not_eq_true]
      exact untaken
    exact exec_job rfl rfl taking rfl unit (if_neg closed)

/-- Settles O26. -/
theorem startPauseResume : Obligations.StartPauseResume := by
  intro s f rest j unit
  refine ⟨fun taking opened => ⟨fun quiet => ?_, fun loud => ?_⟩,
    fun taking => ⟨fun running still => ?_, fun running flying => ?_, fun r stopping => ?_,
      fun paused => ?_⟩,
    fun taking => ⟨fun taken quiet => ?_, fun loud => ⟨fun stopping => ?_, fun paused more => ?_,
      fun paused last => ?_⟩⟩⟩
  · refine exec_job rfl rfl taking rfl unit ((if_neg (not_not.mpr opened)).trans
      ((if_pos quiet).trans ?_))
    rw [refuseJob_eq, opened]
    rfl
  · refine exec_job rfl rfl taking rfl unit ((if_neg (not_not.mpr opened)).trans
      ((if_neg (by simp [loud])).trans (modifyJob_answered ?_ rfl)))
    rw [enter_eq_moved (j := { s.job j with timer := (s.job j).timer.start }) (by simp [opened]),
      ← timer_start_eq]
    rfl
  · have taken : (s.job j).state.takesPause = true := by rw [running]; rfl
    refine exec_job rfl rfl taking rfl unit ((if_pos taken).trans (modifyJob_answered ?_ rfl))
    have paused : (s.job j).pause (s.passInFlight j) = (s.job j).moved .paused := by
      rw [pause_eq, if_pos running, still]
      rfl
    exact paused
  · have taken : (s.job j).state.takesPause = true := by rw [running]; rfl
    refine exec_job rfl rfl taking rfl unit ((if_pos taken).trans (modifyJob_answered ?_ rfl))
    have stopping : (s.job j).pause (s.passInFlight j) = (s.job j).moved (.stopping .pause) := by
      rw [pause_eq, if_pos running, flying]
      rfl
    exact stopping
  · have taken : (s.job j).state.takesPause = true := by rw [stopping]; rfl
    refine exec_job rfl rfl taking rfl unit ((if_pos taken).trans (unmoved_answered ?_ ?_))
    · rw [pause_eq, if_neg (by simp [stopping])]
    · rw [stopping]
      rfl
  · have taken : (s.job j).state.takesPause = true := by rw [paused]; rfl
    refine exec_job rfl rfl taking rfl unit ((if_pos taken).trans (unmoved_answered ?_ ?_))
    · rw [pause_eq, if_neg (by simp [paused])]
    · rw [paused]
      rfl
  · have resumes : (s.job j).state.takesResume = true := by
      rw [takesResume_iff]
      simpa using taken
    exact exec_job rfl rfl taking rfl unit ((if_pos resumes).trans (if_pos quiet))
  · have resumes : (s.job j).state.takesResume = true := by rw [stopping]; rfl
    refine exec_job rfl rfl taking rfl unit ((if_pos resumes).trans ((if_neg (by simp [loud])).trans
      (modifyJob_answered ?_ rfl)))
    rw [Job.resume, stopping]
    exact enter_eq_moved (by simp [stopping])
  · have resumes : (s.job j).state.takesResume = true := by rw [paused]; rfl
    refine exec_job rfl rfl taking rfl unit ((if_pos resumes).trans ((if_neg (by simp [loud])).trans
      (modifyJob_answered ?_ rfl)))
    rw [Job.resume, paused]
    exact goOn_more more paused
  · have resumes : (s.job j).state.takesResume = true := by rw [paused]; rfl
    refine exec_job rfl rfl taking rfl unit ((if_pos resumes).trans ((if_neg (by simp [loud])).trans
      (modifyJob_answered ?_ rfl)))
    rw [Job.resume, paused]
    exact goOn_last last paused

/-- Settles O27. -/
theorem abortAndClose : Obligations.AbortAndClose := by
  intro s f rest j unit
  refine ⟨fun taking live => ⟨State.emptied s rest _ j, ?_, rfl, emptied_lane s rest _ j,
      emptied_slot s rest _ j⟩,
    fun taking closes => ⟨State.emptied s rest _ j, ?_, rfl, emptied_lane s rest _ j,
      emptied_slot s rest _ j⟩⟩
  · exact exec_job rfl rfl taking rfl unit ((if_neg live).trans (freeContext_answer s rest f j ..))
  · exact exec_job rfl rfl taking rfl unit ((if_pos closes).trans (freeContext_answer s rest f j ..))

end Sys2Proof.Laws
end

/-! ## CLEAR FLAGS, SET ENABLES and RETIME (O29, O30) -/

section
namespace Sys2Proof.Laws
open Sys2Proof.Machine

theorem conditionsOfByte_report (b : Byte) : (conditionsOfByte b).toByte = b &&& 0x0F := by
  refine BitVec.eq_of_getLsbD_eq fun i small => ?_
  rw [Conditions.toByte, flagByte_getLsbD _ small, BitVec.getLsbD_and]
  interval_cases i <;> simp [conditionsOfByte]

theorem noticeKindsOfByte_report (b : Byte) : (noticeKindsOfByte b).toByte = b &&& 0x03 := by
  refine BitVec.eq_of_getLsbD_eq fun i small => ?_
  rw [NoticeKinds.toByte, flagByte_getLsbD _ small, BitVec.getLsbD_and]
  interval_cases i <;> simp [noticeKindsOfByte]

/-- SET ENABLES as the statements write it (R79). -/
theorem setEnables_eq (v : Job) (h l k : Byte) :
    v.setEnables (conditionsOfByte h) (min 3 l.toNat) (noticeKindsOfByte k) =
      { v with
        halts := conditionsOfByte h
        noticeLevel := min 3 l.toNat
        noticeKinds := noticeKindsOfByte k
        noticePending :=
          if l = 0 then {}
          else
            { state := v.noticePending.state && k.getLsbD 0
              condition := v.noticePending.condition && k.getLsbD 1 } } := by
  have zero : (min 3 l.toNat = 0) = (l = 0) := by
    have bytes : l = 0 ↔ l.toNat = 0 := BitVec.toNat_inj.symm
    rw [eq_iff_iff, bytes]
    omega
  unfold Job.setEnables
  simp only [zero]
  rfl

/-- Settles O29. -/
theorem clearFlagsAndSetEnables : Obligations.ClearFlagsAndSetEnables := by
  intro s f rest j unit
  refine ⟨fun taking live => ?_, fun h l k taking payload live going => ?_⟩
  · exact exec_job rfl rfl taking rfl unit ((if_neg live).trans (answer_setJob s rest j _ f .ok _))
  · have taken : (s.job j).state.takesEnables = true := by
      rw [takesEnables_iff]
      simp [live, going]
    have fields : field f.payload 1 1 = l.toNat ∧ f.payload.getD 0 0 = h ∧
        f.payload.getD 2 0 = k := by
      rw [payload]
      exact ⟨by simp [field, leNat], rfl, rfl⟩
    obtain ⟨level, halts, kinds⟩ := fields
    refine exec_job rfl rfl taking rfl unit ((if_pos taken).trans ?_)
    rw [level, halts, kinds, ← setEnables_eq, ← clampCode_value, ← conditionsOfByte_report,
      ← noticeKindsOfByte_report]
    exact answer_setJob s rest j _ f _ _

/-! ### RETIME (R138, R139) -/

theorem report_timerFields (t : Timer) : t.report = timerFields t := by
  have bits (a b : Bool) : flagByte [a, b] = (if a then 1 else 0) + (if b then 2 else 0) := by
    revert a b
    decide
  rw [Timer.report, bits]
  rfl

theorem timerModeOf_unknown {m : Nat} (h : 3 ≤ m) : timerModeOf m = none := by
  match m, h with
  | n + 3, _ => rfl

theorem timerModeOf_known {m : Nat} (h : m ≤ 2) : ∃ mode, timerModeOf m = some mode := by
  match m, h with
  | 0, _ => exact ⟨_, rfl⟩
  | 1, _ => exact ⟨_, rfl⟩
  | 2, _ => exact ⟨_, rfl⟩

theorem prescaleOf_unknown {p : Nat} (h : 4 ≤ p) : prescaleOf p = none := by
  match p, h with
  | n + 4, _ => rfl

theorem prescaleOf_known {p : Nat} (h : p ≤ 3) : ∃ prescale, prescaleOf p = some prescale := by
  match p, h with
  | 0, _ => exact ⟨_, rfl⟩
  | 1, _ => exact ⟨_, rfl⟩
  | 2, _ => exact ⟨_, rfl⟩
  | 3, _ => exact ⟨_, rfl⟩

theorem timerModeOf_code (mode : TimerMode) : timerModeOf mode.code.toNat = some mode := by
  cases mode <;> rfl

theorem prescaleOf_code (prescale : Prescale) :
    prescaleOf prescale.code.toNat = some prescale := by
  cases prescale <;> rfl

section
variable {s : State} {f : Frame} {j : Fin 8} {r : TimerRequest} {mode : TimerMode}
  {prescale : Prescale}

theorem retimeTaken_badMode (request : retimeRequestOf f.payload = r)
    (live : (s.job j).state ≠ .free) (unknown : timerModeOf r.mode = none) :
    retimeTaken j f s = s.refuseRetime j f .badField [0] := by
  unfold retimeTaken
  simp only [request, live, if_false, unknown]

theorem retimeTaken_badSelector (request : retimeRequestOf f.payload = r)
    (live : (s.job j).state ≠ .free) (known : timerModeOf r.mode = some mode)
    (unknown : prescaleOf r.selector = none) :
    retimeTaken j f s = s.refuseRetime j f .badField [3] := by
  unfold retimeTaken
  simp only [request, live, if_false, known, unknown]

theorem retimeTaken_otherMode (request : retimeRequestOf f.payload = r)
    (live : (s.job j).state ≠ .free) (known : timerModeOf r.mode = some mode)
    (named : prescaleOf r.selector = some prescale) (begun : (s.job j).state ≠ .opened)
    (other : mode ≠ (s.job j).timer.mode) :
    retimeTaken j f s = s.refuseRetime j f .wrongState [] := by
  unfold retimeTaken
  simp only [request, live, if_false, known, named]
  exact if_pos ⟨begun, other⟩

theorem retimeTaken_taken (request : retimeRequestOf f.payload = r)
    (live : (s.job j).state ≠ .free) (known : timerModeOf r.mode = some mode)
    (named : prescaleOf r.selector = some prescale)
    (allowed : (s.job j).state = .opened ∨ mode = (s.job j).timer.mode) :
    retimeTaken j f s =
      let t := (s.job j).timer.retime ((s.job j).state == .opened) mode
        { reload := max 1 r.reload, prescale }
      (s.setJob j { s.job j with timer := t }).answer f (clampCode (r.reload == 0)) t.report := by
  unfold retimeTaken
  simp only [request, live, if_false, known, named]
  exact if_neg fun ⟨begun, other⟩ => allowed.elim begun other

end

/-- Settles O30: the checks in order, then what the timer takes. -/
theorem retimeJob : Obligations.RetimeJob := by
  intro s f rest j m x0 x1 p taking unit payload refused reload
  have request : retimeRequestOf f.payload =
      { mode := m.toNat, reload := reload, selector := p.toNat } := by
    rw [payload]
    simp [retimeRequestOf, field, leNat, reload]
  have row {code : ReplyCode} {value : Byte} {more : List Byte}
      (owned : retimeTaken j f { s with inbound := rest } =
        State.refuseRetime { s with inbound := rest } j f code more)
      (named : code.value = value) : refused value more := by
    subst named
    refine exec_job rfl rfl taking rfl unit (owned.trans ?_)
    rw [← report_timerFields]
    rfl
  refine ⟨fun free => row (code := .wrongState) (if_pos free) rfl, fun live =>
    ⟨fun unknown => ?_, fun known unknown => ?_, fun mode prescale moded scaled =>
      ⟨fun begun other => ?_, fun allowed => ?_⟩⟩⟩
  · exact row (retimeTaken_badMode request live (timerModeOf_unknown unknown)) rfl
  · obtain ⟨mode, known⟩ := timerModeOf_known known
    exact row (retimeTaken_badSelector request live known (prescaleOf_unknown unknown)) rfl
  · subst moded scaled
    exact row (retimeTaken_otherMode request live (timerModeOf_code mode) (prescaleOf_code prescale)
      begun other) rfl
  · subst moded scaled
    refine ⟨(s.job j).timer.retime ((s.job j).state == .opened) mode
      { reload := max 1 reload, prescale }, ?_, fun opened => ?_, fun begun stopped => ?_,
      fun begun running paced => ?_, fun begun running page => ?_⟩
    · refine exec_job rfl rfl taking rfl unit ((retimeTaken_taken
        (s := { s with inbound := rest }) request live (timerModeOf_code mode)
        (prescaleOf_code prescale) allowed).trans ?_)
      rw [← report_timerFields, ← clampCode_value]
      exact answer_setJob s rest j _ f _ _
    · simp [Timer.retime, opened]
    · simp [Timer.retime, begun, stopped]
    · have same : (s.job j).timer.mode = .paced := (allowed.resolve_left begun).symm.trans paced
      simp [Timer.retime, begun, running, same]
    · have same : (s.job j).timer.mode = .page := (allowed.resolve_left begun).symm.trans page
      simp [Timer.retime, begun, running, same, Timer.load, Timer.began]

end Sys2Proof.Laws
end

/-! ## JOB STATUS (O28) -/

section
namespace Sys2Proof.Laws
open Sys2Proof.Machine

/-! ### Blocks of a report -/

theorem field_drop (d : List Byte) (a b w : Nat) : field d (a + b) w = field (d.drop a) b w := by
  rw [field, field, List.drop_drop]

theorem field_append_left {d post : List Byte} {offset width : Nat}
    (inside : offset + width ≤ d.length) : field (d ++ post) offset width = field d offset width := by
  rw [field, field, List.drop_append_of_le_length (by omega), List.take_append_of_le_length]
  rw [List.length_drop]
  omega

theorem field_leBytes (width n : Nat) (post : List Byte) :
    field (leBytes width n ++ post) 0 width = n % 256 ^ width := by
  rw [field, List.drop_zero, List.take_left' (leBytes_length width n), leNat_leBytes]

/-- Two-byte entries stand two bytes apart. -/
theorem field_entries (entries : List Nat) (post : List Byte) {i n : Nat}
    (entry : entries[i]? = some n) :
    field (entries.flatMap (leBytes 2) ++ post) (2 * i) 2 = n % 65536 := by
  induction entries generalizing i with
  | nil => simp at entry
  | cons m entries ih =>
    rw [List.flatMap_cons, List.append_assoc]
    cases i with
    | zero =>
      obtain rfl : m = n := by simpa using entry
      exact field_leBytes 2 m _
    | succ i =>
      rw [Nat.mul_succ, Nat.add_comm, field_drop, List.drop_left' (leBytes_length 2 m)]
      exact ih (by simpa using entry)

/-- The first 27 bytes of a report: what a context keeps in fields of fixed length (R175). -/
def statusHead (c : Job) : List Byte :=
  [c.state.code, c.state.stopCode, c.profileByte] ++
  leBytes 2 c.width ++ leBytes 2 c.height ++ leBytes 2 c.columns ++ leBytes 2 c.bands ++
  leBytes 3 c.budget ++ [byte c.index, byte c.nextPass.number, byte c.priority] ++
  leBytes 2 c.tag.toNat ++ leBytes 2 c.mask.toNat ++
  [c.halts.toByte, c.causes.toByte, c.flags.toByte] ++
  [byte c.noticeLevel, c.noticeKinds.toByte, c.noticePending.toByte]

/-- The seven bytes behind the timer's: the cursors and the three bits of presence (R175). -/
def statusCursors (s : State) (j : Fin 8) : List Byte :=
  leBytes 2 (s.job j).loaded ++ leBytes 2 (s.job j).emitted ++ leBytes 2 (s.job j).due ++
  [flagByte [(s.job j).loading.isSome, s.passInFlight j, (s.job j).withheld.isSome]]

theorem statusReport_blocks (s : State) (j : Fin 8) :
    s.statusReport j =
      statusHead (s.job j) ++ ((s.job j).timer.report ++ (statusCursors s j ++
        (s.loadingReport j ++ (s.readyReport j ++ (s.codingReport j ++
          ((s.job j).withheldReport ++ leBytes 3 (s.job j).reserved)))))) := by
  unfold State.statusReport statusHead statusCursors
  simp only [List.append_assoc]

theorem timerReport_length (t : Timer) : t.report.length = 10 := by
  rw [Timer.report]
  cases t.buffered <;>
    simp only [List.length_append, List.length_cons, List.length_nil, leBytes_length]

theorem loadingReport_length (s : State) (j : Fin 8) : (s.loadingReport j).length = 3 := by
  unfold State.loadingReport
  split <;> simp [leBytes_length]

theorem readyReport_eq (s : State) (j : Fin 8) :
    s.readyReport j = byte (s.job j).ready.length ::
      (((s.job j).ready.map s.bandIn ++ List.replicate (4 - (s.job j).ready.length) 0).flatMap
        (leBytes 2)) := by
  rw [State.readyReport, List.length_map]

theorem readyReport_length {s : State} {j : Fin 8} (few : (s.job j).ready.length ≤ 4) :
    (s.readyReport j).length = 9 := by
  have entries (l : List Nat) : (l.flatMap (leBytes 2)).length = 2 * l.length := by
    simp [List.length_flatMap, leBytes_length, Nat.mul_comm]
  rw [readyReport_eq, List.length_cons, entries, List.length_append, List.length_map,
    List.length_replicate]
  omega

theorem codingReport_length (s : State) (j : Fin 8) : (s.codingReport j).length = 6 := by
  unfold State.codingReport
  split <;> simp [leBytes_length]

theorem withheldReport_length (v : Job) : v.withheldReport.length = 7 := by
  unfold Job.withheldReport
  split <;> simp [leBytes_length]

/-- Settles O28: the blocks of the report one after another. -/
theorem jobStatusReport : Obligations.JobStatusReport := by
  intro s f rest j taking unit few
  refine ⟨s.statusReport j, exec_job rfl rfl taking rfl unit rfl, ?_⟩
  have from0 := statusReport_blocks s j
  generalize s.statusReport j = d at from0
  have drop {d a post : List Byte} {n m : Nat} (at_ : d.drop n = a ++ post) (long : a.length = m) :
      d.drop (n + m) = post := by
    rw [← List.drop_drop, at_, List.drop_left' long]
  have from27 := drop (n := 0) from0 (m := 27) rfl
  have from37 := drop from27 (timerReport_length _)
  have from44 := drop from37 (m := 7) rfl
  have from47 := drop from44 (loadingReport_length ..)
  have from56 := drop from47 (readyReport_length few)
  have from62 := drop from56 (codingReport_length ..)
  have from69 := drop from62 (withheldReport_length _)
  have one (n : Nat) : leNat (leBytes 1 n) = n % 256 := leNat_leBytes 1 n
  have two (n : Nat) : leNat (leBytes 2 n) = n % 65536 := leNat_leBytes 2 n
  have three (n : Nat) : leNat (leBytes 3 n) = n % 16777216 := leNat_leBytes 3 n
  have small {n m : Nat} (h : n < m) : n % m = n := Nat.mod_eq_of_lt h
  have head (offset width : Nat) (inside : offset + width ≤ 27) :
      field d offset width = field (statusHead (s.job j)) offset width := by
    rw [from0, field_append_left]
    exact inside
  have cursor (offset width : Nat) (inside : offset + width ≤ 7) :
      field d (37 + offset) width = field (statusCursors s j) offset width := by
    rw [field_drop, from37, field_append_left]
    exact inside
  refine ⟨?length, ?codes, ⟨?width, ?height, ?columns, ?bands⟩,
    ⟨?budget, ?index, ?nextPass, ?priority⟩, ⟨?tag, ?mask⟩, ?sets, ?notices, ?timer,
    ⟨?loaded, ?emitted, ?due⟩, ?present, ?loading, ?queueLength, fun i k entry => ?queued,
    ?coding, ?withheld, ?reserved⟩
  case length =>
    have tail : (d.drop 69).length = 3 := by rw [from69, leBytes_length]
    rw [List.length_drop] at tail
    omega
  case codes =>
    rw [from0]
    have profile : (s.job j).profileByte = (s.job j).profile.elim 0xFF (fun k => byte k.val) := by
      unfold Job.profileByte
      cases (s.job j).profile <;> rfl
    rw [← profile]
    rfl
  case width => exact (head 3 2 (by decide)).trans (two _)
  case height => exact (head 5 2 (by decide)).trans (two _)
  case columns => exact (head 7 2 (by decide)).trans (two _)
  case bands => exact (head 9 2 (by decide)).trans (two _)
  case budget => exact (head 11 3 (by decide)).trans (three _)
  case index => exact (head 14 1 (by decide)).trans (one _)
  case nextPass =>
    refine (head 15 1 (by decide)).trans ((one _).trans (small ?_))
    cases (s.job j).nextPass <;> decide
  case priority => exact (head 16 1 (by decide)).trans (one _)
  case tag =>
    have bits := (s.job j).tag.isLt
    exact (head 17 2 (by decide)).trans ((two _).trans (small (by omega)))
  case mask =>
    have bits := (s.job j).mask.isLt
    exact (head 19 2 (by decide)).trans ((two _).trans (small (by omega)))
  case sets =>
    rw [from0]
    rfl
  case notices =>
    rw [from0]
    rfl
  case timer =>
    rw [from27, List.take_left' (timerReport_length _), report_timerFields]
  case loaded => exact (cursor 0 2 (by decide)).trans (two _)
  case emitted => exact (cursor 2 2 (by decide)).trans (two _)
  case due => exact (cursor 4 2 (by decide)).trans (two _)
  case present =>
    rw [← List.drop_drop (i := 6) (j := 37), from37]
    rfl
  case loading =>
    rw [from44, List.take_left' (loadingReport_length ..)]
    rfl
  case queueLength =>
    rw [← Nat.add_zero 47, field_drop, from47, readyReport_eq]
    exact (one _).trans (small (by omega))
  case queued =>
    rw [show 48 + 2 * i = 47 + (1 + 2 * i) by omega, field_drop, from47, readyReport_eq, field_drop]
    refine field_entries _ _ ?_
    rw [List.getElem?_append_left]
    · rw [List.getElem?_map, entry]
      rfl
    · rw [List.length_map]
      exact (List.getElem?_eq_some_iff.mp entry).1
  case coding =>
    rw [from56, List.take_left' (codingReport_length ..)]
    rfl
  case withheld =>
    rw [from62, List.take_left' (withheldReport_length _)]
    rfl
  case reserved =>
    rw [← Nat.add_zero 69, field_drop, from69, ← List.append_nil (leBytes _ _), field_leBytes]
    unfold Job.reserved
    cases (s.job j).reservation <;> rfl

end Sys2Proof.Laws
end

/-! ## JOB OPEN (O23, O24) -/

section
namespace Sys2Proof.Laws
open Sys2Proof.Machine

section
variable {s : State} {f : Frame} {j k i : Fin 8} {r : OpenRequest} {p : Profile}

/-! ### The checks of R67 -/

theorem openFieldFailure_none (width : 1 ≤ r.width ∧ r.width ≤ 8192) (height : 1 ≤ r.height)
    (tag : r.tag ≤ 4095) (mask : r.mask ≤ 4095)
    (timer : ∀ t ∈ r.timer, t.mode ≤ 2 ∧ t.selector ≤ 3) : openFieldFailure r = none := by
  unfold openFieldFailure
  rw [if_neg (by omega), if_neg (by omega), if_neg (by omega), if_neg (by omega)]
  split
  · rfl
  · next t part =>
    obtain ⟨mode, selector⟩ := timer t part
    obtain ⟨_, known⟩ := timerModeOf_known mode
    obtain ⟨_, named⟩ := prescaleOf_known selector
    simp [known, named]

theorem openFieldFailure_timer (width : 1 ≤ r.width ∧ r.width ≤ 8192) (height : 1 ≤ r.height)
    (tag : r.tag ≤ 4095) (mask : r.mask ≤ 4095) {t : TimerRequest} (part : r.timer = some t) :
    openFieldFailure r =
      if (timerModeOf t.mode).isNone then some 18
      else if (prescaleOf t.selector).isNone then some 21
      else none := by
  unfold openFieldFailure
  rw [if_neg (by omega), if_neg (by omega), if_neg (by omega), if_neg (by omega), part]

theorem clashes_iff (v : Job) :
    v.clashes r = true ↔ v.state ≠ .free ∧ v.state ≠ .done ∧
      (v.width ≠ r.width ∨ v.height ≠ r.height) ∧
      (BitVec.ofNat 12 r.tag ^^^ v.tag) &&& BitVec.ofNat 12 r.mask &&& v.mask = 0 := by
  rw [Job.clashes, Bool.and_eq_true, Bool.and_eq_true, takesPixels_iff, Bool.or_eq_true, bne_iff_ne,
    bne_iff_ne, tagsOverlap, beq_iff_eq, and_assoc, and_assoc]

theorem all8_sorted : all8.Pairwise (· < ·) := by decide

theorem clashing_eq_some :
    (all8.find? fun i => (s.job i).clashes r) = some i ↔
      (s.job i).clashes r = true ∧ ∀ n, (s.job n).clashes r = true → i ≤ n := by
  rw [find?_sorted all8_sorted]
  refine ⟨fun ⟨_, clashes, least⟩ => ⟨clashes, fun n other => ?_⟩,
    fun ⟨clashes, least⟩ => ⟨mem_all8 i, clashes, fun n _ lower => ?_⟩⟩
  · by_contra lower
    have none := least n (mem_all8 n) (not_le.mp lower)
    rw [other] at none
    cases none
  · by_contra other
    exact absurd (least n (by simpa using other)) (not_le.mpr lower)

theorem clashing_eq_none :
    (all8.find? fun i => (s.job i).clashes r) = none ↔ ∀ i, (s.job i).clashes r = false := by
  simp [List.find?_eq_none, mem_all8]

section
variable (request : openRequestOf f.payload = r)
include request

theorem jobOpenTaken_noSlot (free : (s.job j).state = .free) (unknown : 8 ≤ r.profile) :
    jobOpenTaken j f s = s.refuseJob j f .badField [0] := by
  unfold jobOpenTaken
  simp only [request, free, ne_eq, not_true_eq_false, if_false, index8_of_ge unknown]

variable (free : (s.job j).state = .free) (slot : r.profile = k.val)
include free slot

theorem jobOpenTaken_empty (empty : (s.profiles[k]).content = .empty) :
    jobOpenTaken j f s = s.refuseJob j f .profileEmpty [] := by
  unfold jobOpenTaken
  simp only [request, free, ne_eq, not_true_eq_false, if_false, index8_of_eq slot, empty]

theorem jobOpenTaken_draft (draft : (s.profiles[k]).content = .draft p) :
    jobOpenTaken j f s = s.refuseJob j f .profileNotReady [] := by
  unfold jobOpenTaken
  simp only [request, free, ne_eq, not_true_eq_false, if_false, index8_of_eq slot, draft]

variable (ready : (s.profiles[k]).content = .ready p)
include ready

theorem jobOpenTaken_field {offset : Nat} (bad : openFieldFailure r = some offset) :
    jobOpenTaken j f s = s.refuseJob j f .badField [byte offset] := by
  unfold jobOpenTaken
  simp only [request, free, ne_eq, not_true_eq_false, if_false, index8_of_eq slot, ready, bad]

theorem jobOpenTaken_clash (inRange : openFieldFailure r = none)
    (clash : (all8.find? fun i => (s.job i).clashes r) = some i) :
    jobOpenTaken j f s = s.refuseJob j f .geometryClash [byte i] := by
  unfold jobOpenTaken
  simp only [request, free, ne_eq, not_true_eq_false, if_false, index8_of_eq slot, ready, inRange,
    clash]

theorem jobOpenTaken_opened (inRange : openFieldFailure r = none)
    (apart : ∀ i, (s.job i).clashes r = false) :
    jobOpenTaken j f s =
      (s.setJob j (openedJob k p r)).answer f (clampCode (openClamped r))
        (openedJob k p r).openReport := by
  unfold jobOpenTaken
  simp only [request, free, ne_eq, not_true_eq_false, if_false, index8_of_eq slot, ready, inRange,
    clashing_eq_none.mpr apart]

end

end

/-- Settles O24: each refusal is the first check that fails. -/
theorem jobOpenRefused : Obligations.JobOpenRefused := by
  intro s f rest j r taking long unit request refused clashes
  have size : openLengths.contains f.payload.length = true := by simpa [openLengths] using long
  have row {code : ReplyCode} {value : Byte} {more : List Byte}
      (owned : jobOpenTaken j f { s with inbound := rest } =
        State.refuseJob { s with inbound := rest } j f code more)
      (named : code.value = value) : refused value more := by
    subst named
    exact exec_job rfl rfl taking size unit (owned.trans (refuseJob_eq ..))
  refine ⟨fun busy => row (code := .wrongState) (if_pos busy) rfl, fun free =>
    ⟨fun unknown => row (jobOpenTaken_noSlot request free unknown) rfl, fun k slot =>
      ⟨fun empty => row (jobOpenTaken_empty request free slot empty) rfl,
        fun p draft => row (jobOpenTaken_draft request free slot draft) rfl, fun p ready => ?_⟩⟩⟩
  have bad {offset : Nat} (failed : openFieldFailure r = some offset) {value : Byte}
      (named : byte offset = value) : refused 0x12 [value] :=
    named ▸ row (jobOpenTaken_field (s := { s with inbound := rest }) request free slot ready failed) rfl
  refine ⟨fun width => ?_, fun narrow wide => ⟨fun height => ?_, fun height => ⟨fun tag => ?_,
    fun tag => ⟨fun mask => ?_, fun mask => ⟨fun t part => ⟨fun mode => ?_, fun mode selector => ?_⟩,
      fun timer i clash least => ?_⟩⟩⟩⟩⟩
  · exact bad (offset := 1) (by rw [openFieldFailure, if_pos width]) rfl
  · exact bad (offset := 3) (by rw [openFieldFailure, if_neg (by omega), if_pos height]) rfl
  · refine bad (offset := 11) ?_ rfl
    rw [openFieldFailure, if_neg (by omega), if_neg (by omega), if_pos tag]
  · refine bad (offset := 13) ?_ rfl
    rw [openFieldFailure, if_neg (by omega), if_neg (by omega), if_neg (by omega), if_pos mask]
  · refine bad (offset := 18) ?_ rfl
    rw [openFieldFailure_timer ⟨narrow, wide⟩ height tag mask part, timerModeOf_unknown mode]
    rfl
  · refine bad (offset := 21) ?_ rfl
    obtain ⟨_, known⟩ := timerModeOf_known mode
    rw [openFieldFailure_timer ⟨narrow, wide⟩ height tag mask part, known,
      prescaleOf_unknown selector]
    rfl
  · refine row (jobOpenTaken_clash request free slot ready
      (openFieldFailure_none ⟨narrow, wide⟩ height tag mask timer) (i := i)
      (clashing_eq_some.mpr ⟨(clashes_iff _).mpr clash, fun n other => ?_⟩)) rfl
    exact least n ((clashes_iff _).mp other)

/-! ### What an accepted JOB OPEN fills (R69, R70) -/

theorem openTimer_eq (o : Option TimerRequest) :
    openTimer o =
      { idleTimer with
        mode := o.elim .off fun t => (timerModeOf t.mode).getD .off
        interval :=
          { reload := o.elim 1 fun t => max 1 t.reload
            prescale := o.elim .by1 fun t => (prescaleOf t.selector).getD .by1 } } := by
  cases o <;> rfl

theorem openClamped_eq (r : OpenRequest) :
    openClamped r =
      (clampBudget (columnsOf r.width) r.budget != r.budget ||
        decide (63 < r.startIndex ∧ r.startIndex ≠ 255) ||
        decide (3 < r.priority) || decide (3 < r.noticeLevel) ||
        r.timer.any fun t => t.reload == 0) := by
  have index : decide (63 < r.startIndex ∧ r.startIndex ≠ 255) =
      (decide (63 < r.startIndex) && r.startIndex != 255) := by
    rw [Bool.decide_and, decide_not]
    rfl
  rw [index, openClamped]
  cases r.timer <;> rfl

/-- The mark of the change to OPEN (R82). -/
theorem openedJob_eq (k : Fin 8) (p : Profile) (r : OpenRequest) :
    openedJob k p r =
      { freeJob with
        state := .opened
        profile := some k
        width := r.width
        height := r.height
        columns := columnsOf r.width
        bands := bandsOf r.height
        budget := clampBudget (columnsOf r.width) r.budget
        index := openIndex p r.startIndex
        priority := min 3 r.priority
        tag := BitVec.ofNat 12 r.tag
        mask := BitVec.ofNat 12 r.mask
        halts := r.halts
        noticeLevel := min 3 r.noticeLevel
        noticeKinds := r.noticeKinds
        noticePending := { state := decide (1 ≤ r.noticeLevel) && r.noticeKinds.state }
        timer := openTimer r.timer } := by
  have marked : (if 1 ≤ min 3 r.noticeLevel ∧ r.noticeKinds.state = true
      then ({ state := true } : NoticeKinds) else {}) =
      { state := decide (1 ≤ r.noticeLevel) && r.noticeKinds.state } := by
    have level : (1 ≤ min 3 r.noticeLevel) = (1 ≤ r.noticeLevel) := by
      rw [eq_iff_iff]
      omega
    simp only [level]
    cases r.noticeKinds.state <;> by_cases some_ : 1 ≤ r.noticeLevel <;> simp [some_]
  rw [← marked]
  exact enter_eq_moved fun same => by cases same

/-- Settles O23. -/
theorem jobOpenAccepted : Obligations.JobOpenAccepted := by
  intro s f rest j k p r taking long unit request free slot ready narrow wide height tag mask timer
    apart columns bands floor budget index reload clamped
  have size : openLengths.contains f.payload.length = true := by simpa [openLengths] using long
  have inRange := openFieldFailure_none ⟨narrow, wide⟩ height tag mask timer
  have clear (i : Fin 8) : (s.job i).clashes r = false := by
    rw [← Bool.not_eq_true, clashes_iff]
    exact fun ⟨live, going, other, overlap⟩ => apart i live going other overlap
  refine exec_job rfl rfl taking size unit ((jobOpenTaken_opened (s := { s with inbound := rest })
    request free slot ready inRange clear).trans ?_)
  rw [openClamped_eq, openedJob_eq, openTimer_eq]
  refine (answer_setJob s rest j _ f _ _).trans ?_
  rw [clampCode_value]
  rfl

end Sys2Proof.Laws
end

/-! ## RESOLVE refused (O31) -/

section
namespace Sys2Proof.Laws
open Sys2Proof.Machine

theorem withheldItems_eq (v : Job) : v.withheldItems = withheldBytes v.withheld := by
  have bits (w : Withheld) :
      w.bits = (if w.complete then 1 else 0) + (if w.fits then 2 else 0) := by
    rw [Withheld.bits]
    cases w.complete <;> cases w.fits <;> rfl
  unfold Job.withheldItems withheldBytes
  cases v.withheld with
  | none => rfl
  | some w =>
    simp only [bits]

section
variable {v : Job} {r : ResolveRequest} {w : Withheld}

/-! ### The checks of R123 -/

theorem resolveRefusal_quiet : resolveRefusal true v r = some (.linkQuiet, []) := rfl

theorem resolveRefusal_field {offset : Nat} (bad : resolveFieldFailure r = some offset) :
    resolveRefusal false v r = some (.badField, [byte offset]) := by
  unfold resolveRefusal
  simp only [bad, Bool.false_eq_true, if_false]

theorem resolveFieldFailure_action (unknown : 5 ≤ r.action) : resolveFieldFailure r = some 0 := by
  have unnamed : actionNamed r.action = false := decide_eq_false (by omega)
  rw [resolveFieldFailure, unnamed]
  rfl

theorem resolveFieldFailure_pass (retry : r.action = 1) (one : r.pass ≠ 1) (two : r.pass ≠ 2) :
    resolveFieldFailure r = some 1 := by
  have unread : retryPassOf r.pass = none := by
    unfold retryPassOf
    split
    · next h => exact absurd h one
    · next h => exact absurd h two
    · rfl
  rw [resolveFieldFailure, retry, unread]
  rfl

theorem resolveFieldFailure_none (named : r.action ≤ 4)
    (pass : r.action = 1 → r.pass = 1 ∨ r.pass = 2) : resolveFieldFailure r = none := by
  have known : actionNamed r.action = true := decide_eq_true named
  rw [resolveFieldFailure, known, if_neg (by simp), if_neg]
  rintro ⟨retry, unread⟩
  obtain one | two := pass retry
  · rw [one] at unread
    cases unread
  · rw [two] at unread
    cases unread

section
variable (fields : resolveFieldFailure r = none)
include fields

theorem resolveRefusal_bare (bare : v.withheld = none) (other : r.action ≠ 4) :
    resolveRefusal false v r = some (.wrongState, []) := by
  unfold resolveRefusal
  simp only [fields, bare, Bool.false_eq_true, if_false]
  exact if_neg other

theorem resolveRefusal_bareContinue (bare : v.withheld = none) (goesOn : r.action = 4) :
    resolveRefusal false v r = none := by
  unfold resolveRefusal
  simp only [fields, bare, Bool.false_eq_true, if_false]
  exact if_pos goesOn

variable (withheld : v.withheld = some w)
include withheld

theorem resolveRefusal_continue (goesOn : r.action = 4) :
    resolveRefusal false v r = some (.wrongState, []) := by
  unfold resolveRefusal
  simp only [fields, withheld, Bool.false_eq_true, if_false]
  exact if_pos goesOn

theorem resolveRefusal_unfit (accept : r.action = 0) (unfit : ¬(w.complete = true ∧ w.fits = true)) :
    resolveRefusal false v r = some (.notComplete, []) := by
  unfold resolveRefusal
  simp only [fields, withheld, Bool.false_eq_true, if_false]
  exact (if_neg (accept ▸ by decide)).trans (if_pos ⟨accept, unfit⟩)

theorem resolveRefusal_none (other : r.action ≠ 4)
    (fit : r.action = 0 → w.complete = true ∧ w.fits = true) : resolveRefusal false v r = none := by
  unfold resolveRefusal
  simp only [fields, withheld, Bool.false_eq_true, if_false]
  exact (if_neg other).trans (if_neg fun ⟨accept, unfit⟩ => unfit (fit accept))

end

end

/-! ### The rows of RESOLVE (R123, R169) -/

theorem resolveRows_row {row : Instr × Nat} (known : row ∈ resolveRows) :
    ∃ effect, eventOf row.1 = resolveRow row.2 effect ∧
      ∀ s, exec row.1 s = .next (occur (eventOf row.1) s) := by
  simp only [resolveRows, List.mem_cons, List.not_mem_nil, or_false] at known
  obtain rfl | rfl | rfl | rfl | rfl := known
  · exact ⟨_, rfl, fun _ => rfl⟩
  · exact ⟨_, rfl, fun _ => rfl⟩
  · exact ⟨_, rfl, fun _ => rfl⟩
  · exact ⟨_, rfl, fun _ => rfl⟩
  · exact ⟨_, rfl, fun _ => rfl⟩

theorem jobRequest_taken {ok : Nat → Bool} {owner : Fin 8 → Frame → State → State} {f : Frame}
    {s : State} {j : Fin 8} (good : ok f.payload.length = true) (unit : f.unit.toNat = j.val) :
    jobRequest ok owner f s = owner j f s := by
  refine (withLength_taken good).trans ?_
  simp only [index8_of_eq unit]

section
variable {s : State} {f : Frame} {j : Fin 8} {effect : Fin 8 → ResolveRequest → Frame → State → State}

theorem resolveTaken_refused {code : ReplyCode} {more : List Byte}
    (halted : (s.job j).state = .halted)
    (refusal : resolveRefusal s.quiet (s.job j) (resolveRequestOf f.payload) = some (code, more)) :
    resolveTaken effect j f s =
      s.answer f code (5 :: (withheldBytes (s.job j).withheld ++ more)) := by
  unfold resolveTaken
  simp only [refusal, halted, ne_eq, not_true_eq_false, if_false]
  rw [State.refuseJob, halted, withheldItems_eq]
  rfl

theorem resolveTaken_taken (halted : (s.job j).state = .halted)
    (accepted : resolveRefusal s.quiet (s.job j) (resolveRequestOf f.payload) = none) :
    resolveTaken effect j f s = effect j (resolveRequestOf f.payload) f s := by
  unfold resolveTaken
  simp only [accepted, halted, ne_eq, not_true_eq_false, if_false]

end

/-- Settles O31: each refusal is the first check of R123 that fails. -/
theorem resolveRefusals : Obligations.ResolveRefusals := by
  intro row known s f rest ready head kind action refused
  obtain ⟨effect, event, taken⟩ := resolveRows_row known
  have mine : isResolve row.2 f = true := isResolve_eq_true kind action
  have answered {code : ReplyCode} {value : Byte} {data : List Byte}
      (answer : jobRequest (· == 7) (resolveTaken effect) f { s with inbound := rest } =
        State.answer { s with inbound := rest } f code data)
      (named : code.value = value) : refused value data :=
    exec_refused ready head (taken s) event mine answer named
  refine ⟨fun bad => answered (withLength_refused ?_) rfl, fun size => ?_⟩
  · simpa using bad
  have good : (f.payload.length == 7) = true := by simpa using size
  refine ⟨fun unit => answered (jobRequest_refused good unit) rfl, fun j unit =>
    ⟨fun going => ?_, fun halted => ?_⟩⟩
  · exact answered (code := .wrongState) ((jobRequest_taken good unit).trans (if_pos going)) rfl
  have checked {code : ReplyCode} {value : Byte} {more : List Byte}
      (refusal : resolveRefusal s.quiet (s.job j) (resolveRequestOf f.payload) = some (code, more))
      (named : code.value = value) :
      refused value (5 :: (withheldBytes (s.job j).withheld ++ more)) :=
    answered ((jobRequest_taken good unit).trans
      (resolveTaken_refused (s := { s with inbound := rest }) halted refusal)) named
  have plain {code : ReplyCode} {value : Byte}
      (refusal : resolveRefusal s.quiet (s.job j) (resolveRequestOf f.payload) = some (code, []))
      (named : code.value = value) : refused value (5 :: withheldBytes (s.job j).withheld) :=
    List.append_nil (withheldBytes (s.job j).withheld) ▸ checked refusal named
  refine ⟨fun quiet => ?_, fun loud => ?_⟩
  · exact plain (quiet ▸ resolveRefusal_quiet) rfl
  rw [loud] at checked plain
  refine ⟨fun unknown => ?_, fun retry one two => ?_, fun named pass bare => ?_, fun w withheld =>
    ⟨fun goesOn => ?_, fun accept unfit => ?_⟩⟩
  · exact checked (resolveRefusal_field (resolveFieldFailure_action unknown)) rfl
  · exact checked (resolveRefusal_field (resolveFieldFailure_pass retry one two)) rfl
  · have fields := resolveFieldFailure_none (r := resolveRequestOf f.payload) (named.trans (by decide))
      pass
    have other : (resolveRequestOf f.payload).action ≠ 4 := fun goesOn =>
      absurd (goesOn.symm.le.trans named) (by decide)
    have reply := plain (resolveRefusal_bare fields bare other) rfl
    rwa [bare] at reply
  · have fields := resolveFieldFailure_none (r := resolveRequestOf f.payload) goesOn.le fun retry =>
      absurd (goesOn.symm.trans retry) (by decide)
    exact withheld ▸ plain (resolveRefusal_continue fields withheld goesOn) rfl
  · have fields := resolveFieldFailure_none (r := resolveRequestOf f.payload)
      (accept.le.trans (by decide)) fun retry => absurd (accept.symm.trans retry) (by decide)
    have short : ¬(w.complete = true ∧ w.fits = true) := fun ⟨complete, fits⟩ => by
      simp [complete, fits] at unfit
    exact withheld ▸ plain (resolveRefusal_unfit fields withheld accept short) rfl

end Sys2Proof.Laws
end

/-! ## A commit, as the statements write it -/

section
namespace Sys2Proof.Laws
open Sys2Proof.Machine

theorem setJob_setJob (s : State) (j : Fin 8) (v w : Job) :
    (s.setJob j v).setJob j w = s.setJob j w := by
  simp [State.setJob]

/-- The record a commit places, as the statements write it (R108, R170). -/
theorem recordFor_eq (s : State) (j : Fin 8) (c : CommitSource) :
    s.recordFor j c =
      bandRecord s j c.band c.pass c.clipped c.lifted c.dropped c.resolved c.startIndex c.payload := by
  have late : (s.job j).lateness c.band =
      if c.band < (s.job j).due then min 255 ((s.job j).due - c.band) else 0 := by
    rw [Job.lateness, Job.isLate]
    simp only [decide_eq_true_eq]
  rw [State.recordFor, late]
  rfl

/-- What a commit by job `j` leaves, the context `v` included: one record more, and the slot without the
job (R95, R109). -/
def State.committed (s : State) (j : Fin 8) (v : Job) (record : OutRecord) (slot : Fin 24) : State :=
  { s.setJob j v with
    records := s.records ++ [record]
    commitCount := s.commitCount + 1
    slots := s.slots.set slot (slotWithout j s.slots[slot]) }

theorem commit_eq (s : State) (j : Fin 8) (c : CommitSource) :
    s.commit j c = State.committed s j (bankedJob (s.job j)) (s.recordFor j c) c.slot := by
  rw [State.committed, ← leaveSlot_eq]
  rfl

theorem committed_modifyJob (s : State) (j : Fin 8) (v : Job) (record : OutRecord) (slot : Fin 24)
    (g : Job → Job) :
    (State.committed s j v record slot).modifyJob j g = State.committed s j (g v) record slot := by
  have job : (State.committed s j v record slot).job j = v := job_setJob_same s j v
  rw [State.modifyJob, job]
  exact congrArg
    (fun t : State =>
      { t with
        records := s.records ++ [record]
        commitCount := s.commitCount + 1
        slots := s.slots.set slot (slotWithout j s.slots[slot]) })
    (setJob_setJob s j v (g v))

/-- A job that goes on after a commit, as the statements write it (R109, R124, R127). -/
theorem goOn_banked {v : Job} (other : v.state ≠ .done) (moves : v.state ≠ .running) :
    Job.goOn { bankedJob v with withheld := none } =
      v.banked (if v.emitted + 1 = v.bands then .done else .running) := by
  by_cases last : v.emitted + 1 = v.bands
  · have moved := enter_eq_moved
      (j := { bankedJob v with
              withheld := none, timer := { v.timer with running := false, buffered := none } })
      (st := .done) other
    rw [if_pos last, Job.banked, if_neg other.symm]
    exact (if_pos last).trans moved
  · have moved := enter_eq_moved (j := { bankedJob v with withheld := none }) (st := .running) moves
    rw [if_neg last, Job.banked, if_neg moves.symm]
    exact (if_neg last).trans moved

end Sys2Proof.Laws
end

/-! ## RESOLVE accepted (O32, O33) -/

section
namespace Sys2Proof.Laws
open Sys2Proof.Machine

section
variable {s : State} {f : Frame} {rest : List Frame} {j : Fin 8} {c : Instr} {w : Withheld}

/-- An accepted RESOLVE runs its action's effect (R123). -/
theorem exec_resolve {action : Nat} {effect : Fin 8 → ResolveRequest → Frame → State → State}
    {t : State} (row : exec c s = .next (occur (eventOf c) s))
    (event : eventOf c = resolveRow action effect) (taking : Taking s f rest 0x24 7)
    (unit : f.unit.toNat = j.val) (named : field f.payload 0 1 = action)
    (halted : (s.job j).state = .halted)
    (accepted : resolveRefusal s.quiet (s.job j) (resolveRequestOf f.payload) = none)
    (effected : effect j (resolveRequestOf f.payload) f { s with inbound := rest } = t) :
    exec c s = .next t.settle := by
  obtain ⟨ready, head, kind, size⟩ := taking
  have mine : isResolve action f = true := isResolve_eq_true kind (.inl named)
  have good : (f.payload.length == 7) = true := by simpa using size
  rw [row, event, resolveRow, row_taken ready head mine, jobRequest_taken good unit,
    resolveTaken_taken (s := { s with inbound := rest }) halted accepted, effected]

/-- A commit by RESOLVE, answered: state, E, and the mark (R124, R127). -/
theorem commitWithheld_answered (source : CommitSource) (halted : (s.job j).state = .halted) :
    State.answerResolve (State.commitWithheld { s with inbound := rest } j source) j f .ok
        [s.commitCount] =
      let st : JobState := if (s.job j).emitted + 1 = (s.job j).bands then .done else .running
      State.committed
        (s.took rest (replyTo f 0x00
          ([st.code] ++ leBytes 2 ((s.job j).emitted + 1) ++ [s.commitCount])))
        j ((s.job j).banked st) (s.recordFor j source) source.slot := by
  have banked := goOn_banked (v := s.job j) (by simp [halted]) (by simp [halted])
  have effected : State.commitWithheld { s with inbound := rest } j source =
      State.committed { s with inbound := rest } j
        ((s.job j).banked (if (s.job j).emitted + 1 = (s.job j).bands then .done else .running))
        (s.recordFor j source) source.slot := by
    rw [State.commitWithheld, commit_eq, committed_modifyJob, ← banked]
    rfl
  have job : State.job (State.committed { s with inbound := rest } j
      ((s.job j).banked (if (s.job j).emitted + 1 = (s.job j).bands then .done else .running))
      (s.recordFor j source) source.slot) j = _ := job_setJob_same _ j _
  rw [effected, State.answerResolve, job]
  rfl

end

/-- A job that goes back to its band (R125, R126). -/
theorem requeue_eq {v : Job} (halted : v.state = .halted) (w : Withheld) (next : Pass) :
    v.requeue w next =
      { v.moved .running with
        reservation := none
        withheld := none
        ready := w.slot :: v.ready
        nextPass := next } := by
  refine enter_eq_moved (j := { v with
    reservation := none, withheld := none, ready := w.slot :: v.ready, nextPass := next }) ?_
  exact fun running => by cases halted.symm.trans running

section
variable {s : State} {f : Frame} {j : Fin 8} {r : ResolveRequest} {w : Withheld}
  (withheld : (s.job j).withheld = some w)
include withheld

theorem acceptEffect_withheld :
    acceptEffect j r f s =
      (s.commitWithheld j (acceptSource (s.job j) w)).answerResolve j f .ok [s.commitCount] := by
  unfold acceptEffect
  simp only [withheld]

theorem dropEffect_withheld :
    dropEffect j r f s =
      (s.commitWithheld j (dropSource (s.job j) w)).answerResolve j f .ok [s.commitCount] := by
  unfold dropEffect
  simp only [withheld]

theorem degradeEffect_withheld :
    degradeEffect j r f s =
      (s.modifyJob j fun job => job.requeue w .three).answerResolve j f .ok [] := by
  unfold degradeEffect
  simp only [withheld]

theorem retryEffect_withheld (halted : (s.job j).state = .halted) {pass : Pass}
    (named : retryPassOf r.pass = some pass) :
    retryEffect j r f s =
      (s.setJob j
        { (s.job j).moved .running with
          index := retryIndex r
          budget := retryBudget (s.job j) r
          reservation := none
          withheld := none
          ready := w.slot :: (s.job j).ready
          nextPass := pass }).answerResolve j f
        (clampCode (retryClamped (s.job j) r))
        ([byte (retryIndex r)] ++ leBytes 3 (retryBudget (s.job j) r) ++ [byte pass.number]) := by
  unfold retryEffect
  simp only [withheld, named, requeue_eq, halted]
  rfl

end

/-- Settles O32. -/
theorem acceptAndDrop : Obligations.AcceptAndDrop := by
  intro s f rest j w r taking unit halted loud withheld reserved st committed
  have accepted (other : field f.payload 0 1 ≠ 4) (known : field f.payload 0 1 ≤ 4)
      (retry : field f.payload 0 1 ≠ 1)
      (fit : field f.payload 0 1 = 0 → w.complete = true ∧ w.fits = true) :
      resolveRefusal s.quiet (s.job j) (resolveRequestOf f.payload) = none :=
    loud ▸ resolveRefusal_none
      (resolveFieldFailure_none (r := resolveRequestOf f.payload) known fun one => absurd one retry)
      withheld other fit
  have answered (source : CommitSource) (slot : source.slot = w.slot) :
      State.settle (State.answerResolve (State.commitWithheld { s with inbound := rest } j source)
        j f .ok [s.commitCount]) = committed (s.recordFor j source) := by
    rw [commitWithheld_answered source halted, slot]
    rfl
  refine ⟨fun named complete fits => ?_, fun named => ?_⟩
  · refine (exec_resolve rfl rfl taking unit named halted (accepted (by omega) (by omega) (by omega)
      fun _ => ⟨complete, fits⟩) (acceptEffect_withheld (s := { s with inbound := rest })
        withheld)).trans (congrArg _ ((answered (acceptSource (s.job j) w) rfl).trans ?_))
    have payload : (acceptSource (s.job j) w).payload = r.area.take w.stored := by
      rw [acceptSource]
      simp only [reserved]
    rw [recordFor_eq, payload]
    rfl
  · refine (exec_resolve rfl rfl taking unit named halted (accepted (by omega) (by omega) (by omega)
      (by omega)) (dropEffect_withheld (s := { s with inbound := rest }) withheld)).trans
        (congrArg _ ((answered (dropSource (s.job j) w) rfl).trans ?_))
    rw [recordFor_eq]
    rfl

/-! ### RETRY, DEGRADE, CONTINUE -/

theorem setJob_answered {s : State} {rest : List Frame} {j : Fin 8} {f : Frame} (v : Job)
    (code : ReplyCode) (more : List Byte) :
    State.answerResolve (State.setJob { s with inbound := rest } j v) j f code more =
      (s.took rest (replyTo f code.value
        ([v.state.code] ++ leBytes 2 v.emitted ++ more))).setJob j v := by
  rw [State.answerResolve, job_setJob_same]
  rfl

/-- A move of one context by RESOLVE, answered with its state and E (R123; log 12). -/
theorem modifyJob_answeredResolve {s : State} {rest : List Frame} {j : Fin 8} {f : Frame}
    {g : Job → Job} {v : Job} (became : g (s.job j) = v) :
    State.answerResolve (State.modifyJob { s with inbound := rest } j g) j f .ok [] =
      (s.took rest (replyTo f 0x00 ([v.state.code] ++ leBytes 2 v.emitted))).setJob j v := by
  subst became
  refine (setJob_answered _ _ _).trans ?_
  rw [List.append_nil]
  rfl

theorem retryPassOf_number {pass : Pass} (other : pass ≠ .three) :
    retryPassOf pass.number = some pass := by
  cases pass with
  | one => rfl
  | two => rfl
  | three => exact absurd rfl other

theorem retryClamped_eq (v : Job) (r : ResolveRequest) :
    retryClamped v r =
      decide (63 < r.index ∨ r.budget ≠ 0 ∧ retryBudget v r ≠ r.budget) := by
  rw [Bool.eq_iff_iff, retryClamped, retryBudget]
  by_cases absent : r.budget = 0 <;> simp [absent]

/-- Settles O33. -/
theorem retryDegradeContinue : Obligations.RetryDegradeContinue := by
  intro s f rest j taking unit halted loud
  refine ⟨fun w withheld => ⟨fun pass i b0 b1 b2 b3 other payload => ?_, fun named => ?_⟩,
    fun bare named => ?_⟩
  · intro requested floor budget
    have request : resolveRequestOf f.payload =
        { action := 1, pass := pass.number, index := i.toNat, budget := requested } := by
      have number : (byte pass.number).toNat = pass.number := by cases pass <;> rfl
      rw [payload]
      simp [resolveRequestOf, field, leNat, requested, number]
    have action : field f.payload 0 1 = 1 := congrArg ResolveRequest.action request
    have accepted : resolveRefusal s.quiet (s.job j) (resolveRequestOf f.payload) = none := by
      rw [loud, request]
      refine resolveRefusal_none (resolveFieldFailure_none (Nat.le_add_right 1 3) fun _ => ?_)
        withheld (fun four => by cases four) (fun zero => by cases zero)
      cases pass with
      | one => exact .inl rfl
      | two => exact .inr rfl
      | three => exact absurd rfl other
    refine exec_resolve rfl rfl taking unit action halted accepted ?_
    rw [request]
    refine (retryEffect_withheld (s := { s with inbound := rest }) withheld
      halted (retryPassOf_number other)).trans ((setJob_answered _ _ _).trans ?_)
    rw [retryClamped_eq, clampCode_value]
    rfl
  · have accepted : resolveRefusal s.quiet (s.job j) (resolveRequestOf f.payload) = none :=
      loud ▸ resolveRefusal_none (resolveFieldFailure_none (r := resolveRequestOf f.payload)
        (named.le.trans (by decide)) fun one => absurd (named.symm.trans one) (by decide)) withheld
        (fun four => absurd (named.symm.trans four) (by decide))
        (fun zero => absurd (named.symm.trans zero) (by decide))
    exact exec_resolve rfl rfl taking unit named halted accepted
      ((degradeEffect_withheld (s := { s with inbound := rest }) withheld).trans
        (modifyJob_answeredResolve (requeue_eq halted w .three)))
  · have accepted : resolveRefusal s.quiet (s.job j) (resolveRequestOf f.payload) = none :=
      loud ▸ resolveRefusal_bareContinue (resolveFieldFailure_none (r := resolveRequestOf f.payload)
        named.le fun one => absurd (named.symm.trans one) (by decide)) bare named
    exact exec_resolve rfl rfl taking unit named halted accepted
      (modifyJob_answeredResolve (enter_eq_moved fun running => by cases halted.symm.trans running))

end Sys2Proof.Laws
end

/-! ## PIXELS refused and accepted (O34, O35) -/

section
namespace Sys2Proof.Laws
open Sys2Proof.Machine

theorem findSome?_of_find? {α β : Type} {l : List α} {g : α → Option β} {a : α}
    (found : (l.find? fun x => (g x).isSome) = some a) : l.findSome? g = g a := by
  induction l with
  | nil => cases found
  | cons x l ih =>
    rw [List.find?_cons] at found
    cases here : g x with
    | some b =>
      simp only [here, Option.isSome_some, Option.some.injEq] at found
      rw [List.findSome?_cons, ← found, here]
    | none =>
      simp only [here, Option.isSome_none] at found
      rw [List.findSome?_cons, here]
      exact ih found

section
variable {s : State} {f : Frame} {rest : List Frame} {q : PixelsRequest} {k : Fin 24}
  {b : BandSlot} {j : Fin 8}

/-- The rows complete of a refused frame's reply (R91). -/
theorem loadingRows_eq {tag : Nat} {rows : Byte} (h : refusedRows s tag rows) :
    byte (s.loadingRows tag) = rows := by
  unfold State.loadingRows
  obtain ⟨j, k, target, loading, least, rfl⟩ | ⟨unheld, rfl⟩ := h
  · have found : ((s.targets (BitVec.ofNat 12 tag)).find? fun i => (s.job i).loading.isSome) =
        some j :=
      (find?_target _).mpr ⟨target, by simp [loading], fun i lower other => by
        simp [least i lower other]⟩
    rw [findSome?_of_find? (g := fun i => (s.job i).loading) found, loading]
  · have none_ : ((s.targets (BitVec.ofNat 12 tag)).findSome? fun i => (s.job i).loading) = none :=
      List.findSome?_eq_none_iff.mpr fun i mem => unheld i ((mem_targets tag).mp mem)
    rw [none_]
    rfl

/-! ### PIXELS, by what its checks give (R87, R90) -/

theorem pixelsTaken_unslotted {r : IntakeRefusal} (request : pixelsRequestOf f.payload = q)
    (refused : s.intakeSlot q = .error r) : pixelsTaken f s = s.refusePixels f q.tag r := by
  unfold pixelsTaken
  simp only [request, refused]

theorem pixelsTaken_badData {r : IntakeRefusal} (request : pixelsRequestOf f.payload = q)
    (slot : s.intakeSlot q = .ok (k, b)) (refused : dataRefusal b q = some r) :
    pixelsTaken f s = s.refusePixels f q.tag r := by
  unfold pixelsTaken
  simp only [request, slot, refused]

theorem pixelsTaken_accepted (request : pixelsRequestOf f.payload = q)
    (slot : s.intakeSlot q = .ok (k, b)) (good : dataRefusal b q = none) :
    pixelsTaken f s = s.beginWrite f q k b := by
  unfold pixelsTaken
  simp only [request, slot, good]

/-! ### Refusals of checks 1 to 6 (R87) -/

theorem intakeSlot_quiet (quiet : s.quiet = true) : s.intakeSlot q = .error (.linkQuiet, []) := by
  rw [State.intakeSlot, if_pos quiet]

section
variable (calm : s.quiet = false)
include calm

theorem intakeSlot_tag (tag : 4095 < q.tag) : s.intakeSlot q = .error (.badField, [0]) := by
  rw [State.intakeSlot, if_neg (by simp [calm]), if_pos tag]

variable (tag : q.tag ≤ 4095)
include tag

theorem intakeSlot_noTarget (none_ : ∀ j, ¬targets s q.tag j) :
    s.intakeSlot q = .error (.noTarget, []) := by
  rw [State.intakeSlot, if_neg (by simp [calm]), if_neg (by omega)]
  simp only [targets_nil.mpr none_]

theorem intakeSlot_otherBand (target : targets s q.tag j)
    (other : (s.job j).loaded ≠ q.band ∨ (s.job j).bands ≤ (s.job j).loaded)
    (least : ∀ i, i < j → targets s q.tag i →
      (s.job i).loaded = q.band ∧ (s.job i).loaded < (s.job i).bands) :
    s.intakeSlot q = .error (.bandMismatch, [byte j] ++ leBytes 2 (s.job j).loaded) := by
  have found : ((s.targets (BitVec.ofNat 12 q.tag)).find? fun i => (s.job i).expectsNot q.band) =
      some j := by
    refine (find?_target _).mpr ⟨target, ?_, fun i lower h => expectsNot_eq_false.mpr (least i lower h)⟩
    rw [Job.expectsNot, Bool.or_eq_true, decide_eq_true_iff, decide_eq_true_iff]
    exact other
  obtain ⟨first, others, list⟩ := List.exists_cons_of_ne_nil fun empty =>
    targets_nil.mp empty j target
  rw [State.intakeSlot, if_neg (by simp [calm]), if_neg (by omega)]
  simp only [list] at found ⊢
  simp only [found]

theorem expected_of (target : targets s q.tag j)
    (bands : ∀ j, targets s q.tag j →
      (s.job j).loaded = q.band ∧ (s.job j).loaded < (s.job j).bands) :
    ∃ first others, Expected s q first others := by
  obtain ⟨first, others, list⟩ := List.exists_cons_of_ne_nil fun empty =>
    targets_nil.mp empty j target
  exact ⟨first, others, calm, tag, list, bands⟩

end

theorem continuedSlot_changed (slot : s.slots[k] = some b) (changed : ¬continues s q k b) :
    s.continuedSlot (s.targets (BitVec.ofNat 12 q.tag)) j k =
      .error (.setChanged, [byte j] ++ leBytes 2 b.band ++ leBytes 2 b.tag.toNat ++ [b.refs]) := by
  have other : s.continuedSlot (s.targets (BitVec.ofNat 12 q.tag)) j k ≠ .ok (k, b) :=
    fun ok => changed (continuedSlot_ok_iff.mp ok)
  unfold State.continuedSlot at other ⊢
  simp only [slot] at other ⊢
  split_ifs at other ⊢ with same
  · exact absurd rfl other
  · rfl

theorem newSlot_spent {first : Fin 8} (target : targets s q.tag j)
    (spent : 4 ≤ (s.job j).loaded - (s.job j).emitted)
    (least : ∀ i, i < j → targets s q.tag i → (s.job i).loaded - (s.job i).emitted < 4) :
    s.newSlot (s.targets (BitVec.ofNat 12 q.tag)) first (BitVec.ofNat 12 q.tag) q.band =
      .error (.credit,
        [byte j] ++ leBytes 2 (s.job j).loaded ++ leBytes 2 (s.job j).emitted) := by
  have found : ((s.targets (BitVec.ofNat 12 q.tag)).find? fun i => (s.job i).credit == 0) =
      some j := by
    refine (find?_target _).mpr ⟨target, by simpa [credit_eq_zero] using spent,
      fun i lower h => ?_⟩
    rw [beq_eq_false_iff_ne, ne_eq, credit_eq_zero, not_le]
    exact least i lower h
  unfold State.newSlot
  simp only [found]

theorem newSlot_full {first : Fin 8}
    (credit : ∀ j, targets s q.tag j → (s.job j).loaded - (s.job j).emitted < 4)
    (full : ∀ k : Fin 24, s.slots[k] ≠ none) :
    s.newSlot (s.targets (BitVec.ofNat 12 q.tag)) first (BitVec.ofNat 12 q.tag) q.band =
      .error (.noSlot, []) := by
  have found : ((s.targets (BitVec.ofNat 12 q.tag)).find? fun i => (s.job i).credit == 0) =
      none := by
    refine (find?_target_none _).mpr fun i h => ?_
    rw [beq_eq_false_iff_ne, ne_eq, credit_eq_zero, not_le]
    exact credit i h
  unfold State.newSlot
  simp only [found, firstFreeSlot_eq_none.mpr full]

/-- The row of PIXELS, refused (R91). -/
theorem exec_pixelsRefused {rows : Byte} {r : IntakeRefusal}
    (taking : Taking s f rest 0x30 f.payload.length) (long : 9 ≤ f.payload.length)
    (complete : refusedRows s q.tag rows)
    (refused : pixelsTaken f { s with inbound := rest } =
      State.refusePixels { s with inbound := rest } f q.tag r) :
    exec .pixels s = .next (State.settle
      (s.took rest (replyTo f r.1.value ([rows, byte s.freeSlots] ++ r.2)))) := by
  obtain ⟨ready, head, kind, -⟩ := taking
  refine exec_refused ready head rfl rfl (by simp [isKind, kind, kindPixels])
    ((withLength_taken (by simpa using long)).trans (refused.trans ?_)) rfl
  rw [← loadingRows_eq complete]
  rfl

end

/-- Settles O34: each refusal is the first check that fails. -/
theorem pixelsRefused : Obligations.PixelsRefused := by
  intro s f rest q rows taking long request complete refused
  have row {r : IntakeRefusal} {code : Byte}
      (taken : pixelsTaken f { s with inbound := rest } =
        State.refusePixels { s with inbound := rest } f q.tag r)
      (named : r.1.value = code) : refused code r.2 := by
    subst named
    exact exec_pixelsRefused taking long complete taken
  have unslotted {code : ReplyCode} {value : Byte} {more : List Byte}
      (error : s.intakeSlot q = .error (code, more)) (named : code.value = value) :
      refused value more :=
    row (r := (code, more)) (pixelsTaken_unslotted request error) named
  refine ⟨fun quiet => unslotted (intakeSlot_quiet quiet) rfl, fun calm =>
    ⟨fun tag => unslotted (intakeSlot_tag calm tag) rfl, fun tag =>
      ⟨fun none_ => unslotted (intakeSlot_noTarget calm tag none_) rfl,
        fun j target other least =>
          unslotted (intakeSlot_otherBand calm tag target other least) rfl,
        fun bands => ⟨fun j k b target loading slot least changed => ?_, fun unheld =>
          ⟨fun j target spent least => ?_, fun ⟨j, target⟩ credit full => ?_⟩⟩⟩⟩,
    fun k b slot => ?_⟩
  · obtain ⟨first, others, expected⟩ := expected_of calm tag target bands
    have found : ((s.targets (BitVec.ofNat 12 q.tag)).find? fun i => (s.job i).loading.isSome) =
        some j :=
      (find?_target _).mpr ⟨target, by simp [loading], fun i lower h => by
        simp [least i lower h]⟩
    exact unslotted ((intakeSlot_held expected loading found).trans
      (continuedSlot_changed slot changed)) rfl
  · obtain ⟨first, others, expected⟩ := expected_of calm tag target bands
    have found := (find?_target_none (s := s) (tag := q.tag) fun i => (s.job i).loading.isSome).mpr
      fun i h => by simp [unheld i h]
    exact unslotted ((intakeSlot_unheld expected found).trans (newSlot_spent target spent least)) rfl
  · obtain ⟨first, others, expected⟩ := expected_of calm tag target bands
    have found := (find?_target_none (s := s) (tag := q.tag) fun i => (s.job i).loading.isSome).mpr
      fun i h => by simp [unheld i h]
    exact unslotted ((intakeSlot_unheld expected found).trans (newSlot_full credit full)) rfl
  · have bad {code : ReplyCode} {value : Byte} {more : List Byte}
        (error : dataRefusal b q = some (code, more)) (named : code.value = value) :
        refused value more :=
      row (r := (code, more)) (pixelsTaken_badData (s := { s with inbound := rest }) request
        (intakeSlot_ok_iff.mpr slot) error) named
    refine ⟨fun count => bad (if_pos count) rfl, fun some_ few => ⟨fun high =>
        bad (code := .badField) ?_ rfl,
      fun low => ⟨fun gap => bad (code := .rowOrder) ?_ rfl,
        fun next => ⟨fun wide => bad (code := .rowOverflow) ?_ rfl,
          fun narrow size => bad (code := .badLength) ?_ rfl⟩⟩⟩⟩
    · rw [dataRefusal, if_neg (by omega), if_pos high]
    · rw [dataRefusal, if_neg (by omega), if_neg (by omega), if_pos gap]
    · rw [dataRefusal, if_neg (by omega), if_neg (by omega), if_neg (not_not.mpr next), if_pos wide]
    · have length : q.data.length = f.payload.length - 9 := by
        rw [← request]
        exact List.length_drop
      rw [dataRefusal, if_neg (by omega), if_neg (by omega), if_neg (not_not.mpr next),
        if_neg (by omega), if_pos (by omega)]

/-! ### PIXELS accepted -/

/-- The triplets of pixels, read back (R86, R169). -/
theorem tripletsOf_pixels (px : List Rgb) :
    tripletsOf (px.flatMap fun p => [p.r, p.g, p.b]) = px := by
  induction px with
  | nil => rfl
  | cons p px ih => exact congrArg (p :: ·) ih

/-- Settles O35. -/
theorem pixelsAccepted : Obligations.PixelsAccepted := by
  intro s f rest q k b px taking request slot some_ few low next narrow pixels
  have data : q.data = px.flatMap fun p => [p.r, p.g, p.b] := by
    rw [← pixels, ← request]
    rfl
  have length : q.data.length = 3 * q.count := by
    have size := taking.size
    rw [← request]
    exact List.length_drop.trans (by rw [size, request]; omega)
  have good : dataRefusal b q = none := 
    dataRefusal_eq_none.mpr ⟨⟨some_, few⟩, low, next, narrow, length⟩
  have refs (j : Fin 8) : JobSet.has b.refs j = true ↔ targets s q.tag j := by
    obtain ⟨-, -, -, -, ⟨-, -, refs⟩ | ⟨-, -, -, -, -, -, -, refs, -⟩⟩ := slot
    · exact refs j
    · exact refs j
  obtain ⟨ready, head, kind, size⟩ := taking
  refine ⟨State.beginWrite { s with inbound := rest } f q k b, ?_, ?_, fun j => ⟨fun target => ?_,
    fun other => ?_⟩⟩
  · rw [← pixelsTaken_accepted (s := { s with inbound := rest }) request
      (intakeSlot_ok_iff.mpr slot) good]
    refine congrArg _ ((row_taken ready head (by simp [isKind, kind, kindPixels])).trans ?_)
    rw [withLength_taken (by simp [size])]
  · rw [← tripletsOf_pixels px, ← data]
    rfl
  · exact (job_beginWrite _ j f q k b).trans (if_pos ((refs j).mpr target))
  · exact (job_beginWrite _ j f q k b).trans (if_neg fun held => other ((refs j).mp held))

end Sys2Proof.Laws
end

/-! ## A pixel write complete (O36) -/

section
namespace Sys2Proof.Laws
open Sys2Proof.Machine

section
variable {s : State} {w : PixelWrite} {b : BandSlot} {k : Fin 24}

theorem allComplete_iff (b : BandSlot) :
    b.allComplete = true ↔ b.rowsComplete = b.rows.length := by
  rw [BandSlot.allComplete, BandSlot.rowsComplete, List.all_eq_true, List.countP_eq_length]

theorem allComplete_eq (b : BandSlot) :
    b.allComplete = (b.rowsComplete == b.rows.length) := by
  rw [Bool.eq_iff_iff, allComplete_iff, beq_iff_eq]

theorem storeWritten_rowsIn (s : State) (k : Fin 24) (b : BandSlot) :
    (s.storeWritten k b).rowsIn k = b.rowsComplete := by
  rw [State.rowsIn, slots_storeWritten, if_pos rfl]
  rfl

/-- A write frees no slot and takes none (R84, R92). -/
theorem storeWritten_freeSlots (v : BandSlot) (band : s.slots[k] = some b) :
    (s.storeWritten k v).freeSlots = s.freeSlots := by
  unfold State.freeSlots
  refine List.countP_congr fun i _ => ?_
  rw [slots_storeWritten]
  split_ifs with here
  · simp [here, band]
  · rfl

/-- What a write changes besides contexts (R92, R94). -/
theorem storeWritten_shape (s : State) (k : Fin 24) (b : BandSlot) :
    s.storeWritten k b =
      { s with
        slots := s.slots.set k (some { b with full := b.full || b.allComplete })
        jobs := (s.storeWritten k b).jobs } := by
  unfold State.storeWritten
  cases b.allComplete with
  | true =>
    rw [Bool.or_true]
    rfl
  | false =>
    rw [Bool.or_false]
    rfl

/-- The write in hand ends (R92). -/
theorem pixelsWriteComplete_writing (hand : s.inHand = .pixels w)
    (band : s.slots[w.slot] = some b) :
    pixelsWriteCompleteEvent s = some
      (State.post
        { s.storeWritten w.slot (b.withPixels w.row w.pixels) with inHand := .nothing }
        kindPixels w.unit .ok
        [byte (b.withPixels w.row w.pixels).rowsComplete, byte s.freeSlots]) := by
  unfold pixelsWriteCompleteEvent
  simp only [hand, band, storeWritten_rowsIn, storeWritten_freeSlots _ band]

end

/-- Settles O36. -/
theorem pixelsWritten : Obligations.PixelsWritten := by
  intro s w b powered hand band rows complete
  have rowsComplete : (b.withPixels w.row w.pixels).rowsComplete = complete := rfl
  have all : (b.withPixels w.row w.pixels).allComplete = (complete == rows.length) :=
    allComplete_eq (b.withPixels w.row w.pixels)
  refine ⟨_, congrArg _ (occur_some powered (pixelsWriteComplete_writing hand band)), ?_, fun j =>
    ⟨fun done member => ?_, fun open_ => ?_⟩⟩
  · rw [rowsComplete, ← all]
    have shape := storeWritten_shape s w.slot (b.withPixels w.row w.pixels)
    generalize s.storeWritten w.slot (b.withPixels w.row w.pixels) = t at shape ⊢
    rw [shape]
    rfl
  · exact (job_storeWritten s j w.slot _).trans (if_pos ⟨by simpa [all] using done, member⟩)
  · refine (job_storeWritten s j w.slot _).trans (if_neg fun ⟨done, member⟩ => ?_)
    obtain partly | other := open_
    · exact partly (by simpa [all] using done)
    · exact absurd (member.symm.trans other) (by decide)

end Sys2Proof.Laws
end

/-! ## Grants (O37) -/

section
namespace Sys2Proof.Laws
open Sys2Proof.Machine

/-- The lane a grant takes (R102). -/
theorem idleLane_some {s : State} {l : Fin 2}
    (idle : l = 0 ∧ s.lanes[0] = none ∨ l = 1 ∧ s.lanes[0] ≠ none ∧ s.lanes[1] = none) :
    s.idleLane = some l := by
  unfold State.idleLane
  obtain ⟨rfl, zero⟩ | ⟨rfl, busy, one⟩ := idle
  · rw [zero]
    rfl
  · rw [if_neg (by simpa using busy), one]
    rfl

/-- Settles O37. -/
theorem grantToHead : Obligations.GrantToHead := by
  intro s j others powered head
  refine ⟨fun waits => exec_not_due rfl (grant_unchanged fun i rest head' => ?_),
    fun l k ks b idle ready band room => ?_⟩
  · obtain ⟨rfl, rfl⟩ := List.cons.inj (head'.symm.trans head)
    exact waits
  · have due : grantEvent s = some (s.grantTo l j k ks) := by
      unfold grantEvent
      simp only [idleLane_some idle, head, ready, room, if_true]
    have bandIn : s.bandIn k = b.band := by
      unfold State.bandIn
      rw [band]
    have rest : others = s.candidates.erase j := by rw [head, List.erase_cons_head]
    rw [← bandIn, rest]
    exact congrArg _ (occur_some powered due)

end Sys2Proof.Laws
end

/-! ## Padding and the column event (O38) -/

section
namespace Sys2Proof.Laws
open Sys2Proof.Machine

/-! ### Padding (R2, R3) -/

/-- A sample of a padded tile: the stored pixel at the row and position clamped to the band (R3). -/
theorem tilePixels_sample {b : BandSlot} (column top : Nat) {x y : Nat} (hx : x < 8) (hy : y < 8)
    (rows : b.rows.length = b.rowsNeeded) (width : ∀ row ∈ b.rows, row.length = b.width)
    (some_ : 1 ≤ b.rowsNeeded) (wide : 1 ≤ b.width) :
    ∃ pixel, ((tilePixels b column top)[y]?.bind fun row => row[x]?) = some pixel ∧
      (b.rows[min (top + y) (b.rowsNeeded - 1)]?.bind fun row =>
        row[min (8 * column + x) (b.width - 1)]?) = some pixel := by
  have low : min (top + y) (b.rowsNeeded - 1) < b.rows.length := by omega
  have long := width _ (List.getElem_mem low)
  have near : min (8 * column + x) (b.width - 1) <
      b.rows[min (top + y) (b.rowsNeeded - 1)].length := by omega
  refine ⟨b.rows[min (top + y) (b.rowsNeeded - 1)][min (8 * column + x) (b.width - 1)], ?_, ?_⟩
  · simp [tilePixels, hx, hy, paddedPixel, paddedRow, List.getD_eq_getElem?_getD,
      List.getElem?_eq_getElem low, List.getElem?_eq_getElem near]
  · simp [List.getElem?_eq_getElem low, List.getElem?_eq_getElem near]

/-! ### A column (R2, R27, R29, R45) -/

section
variable {s : State} {l : Fin 2} {p : PassState} {b : BandSlot} {q : Profile} {r : Reservation}
  {c : Coding}

theorem pushBit_bitCount (budget : Nat) (st : Stream) (bit : Bool) :
    (st.pushBit budget bit).bitCount = st.bitCount + 1 := by
  rw [Stream.pushBit]
  simp only
  split_ifs
  · exact store_bitCount
  · rfl

theorem push_bitCount (budget : Nat) (st : Stream) (bits : List Bool) :
    (st.push budget bits).bitCount = st.bitCount + bits.length := by
  induction bits generalizing st with
  | nil => rfl
  | cons bit bits ih =>
    rw [Stream.push, List.foldl_cons, ← Stream.push, ih, pushBit_bitCount, List.length_cons]
    omega

/-- A pass with its bit stream, predictors and clipped mark replaced. -/
def Coding.coded (c : Coding) (st : Stream) (predictors : Predictors) (clipped : Bool) : Coding where
  pass :=
    { c.pass with
      bitCount := st.bitCount
      predictors := predictors
      currentByte := st.currentByte
      stored := st.stored
      clippedMark := clipped }
  area := st.area

theorem coded_stream (c : Coding) (st : Stream) (predictors : Predictors) (clipped : Bool) :
    (Coding.coded c st predictors clipped).stream = st := rfl

theorem coded_coded (c : Coding) (st st' : Stream) (predictors predictors' : Predictors)
    (clipped clipped' : Bool) :
    Coding.coded (Coding.coded c st predictors clipped) st' predictors' clipped' =
      Coding.coded c st' predictors' clipped' := rfl

theorem coded_settings (c : Coding) (st : Stream) (predictors : Predictors) (clipped : Bool) :
    (Coding.coded c st predictors clipped).pass.pass = c.pass.pass ∧
      (Coding.coded c st predictors clipped).pass.runningIndex = c.pass.runningIndex ∧
      (Coding.coded c st predictors clipped).pass.column = c.pass.column ∧
      (Coding.coded c st predictors clipped).pass.predictors = predictors ∧
      (Coding.coded c st predictors clipped).pass.clippedMark = clipped :=
  ⟨rfl, rfl, rfl, rfl, rfl⟩

theorem codeTile_eq (q : Profile) (budget : Nat) (b : BandSlot) (top : Nat) (c : Coding) :
    c.codeTile q budget b top =
      Coding.coded c
        (c.stream.push budget (tileBits c.pass.predictors
          (tileLevels q c.pass.pass c.pass.runningIndex (tilePixels b c.pass.column top))))
        (predictorsAfter
          (tileLevels q c.pass.pass c.pass.runningIndex (tilePixels b c.pass.column top)))
        (c.pass.clippedMark ||
          tileClips q c.pass.pass c.pass.runningIndex (tilePixels b c.pass.column top)) := by
  simp only [Coding.codeTile, Coding.withStream, Coding.coded]

/-- Both tiles of a column: the second is coded against the levels of the first (R27). -/
theorem codeColumn_eq (q : Profile) (budget : Nat) (b : BandSlot) (c : Coding) {top bottom : TileLevels}
    (first : tileLevels q c.pass.pass c.pass.runningIndex (tilePixels b c.pass.column 0) = top)
    (second : tileLevels q c.pass.pass c.pass.runningIndex (tilePixels b c.pass.column 8) =
      bottom) :
    c.codeColumn q budget b =
      Coding.coded c
        (c.stream.push budget
          (tileBits c.pass.predictors top ++ tileBits (predictorsAfter top) bottom))
        (predictorsAfter bottom)
        (c.pass.clippedMark ||
          tileClips q c.pass.pass c.pass.runningIndex (tilePixels b c.pass.column 0) ||
          tileClips q c.pass.pass c.pass.runningIndex (tilePixels b c.pass.column 8)) := by
  rw [Coding.codeColumn, codeTile_eq (c := c), first, codeTile_eq]
  obtain ⟨pass, index, column, predictors, clipped⟩ := coded_settings c
    (c.stream.push budget (tileBits c.pass.predictors top)) (predictorsAfter top)
    (c.pass.clippedMark ||
      tileClips q c.pass.pass c.pass.runningIndex (tilePixels b c.pass.column 0))
  rw [pass, index, column, predictors, clipped, second, coded_stream, coded_coded, push_push]

theorem nextRunning_eq (pass : Pass) (budget columns column bits running : Nat) :
    nextRunning pass budget columns column bits running =
      if pass = .three then running
      else updateIndex running (columnError budget columns column bits)
        (tolerance budget columns) := by
  cases pass <;> rfl

theorem endsEarly_eq (pass : Pass) (budget bits : Nat) :
    endsEarly pass budget bits = (pass != .three && decide (8 * budget < bits)) := by
  cases pass <;> rfl

/-- A column steered (R45): the update, then the early-end test. -/
theorem coded_steered (c : Coding) {st : Stream} (predictors : Predictors) (clipped : Bool)
    {total : Nat} (count : st.bitCount = total) (budget columns : Nat) :
    { Coding.coded c st predictors clipped with
        pass := (Coding.coded c st predictors clipped).pass.steer budget columns : Coding } =
      { pass :=
          { c.pass with
            runningIndex :=
              if c.pass.pass = .three then c.pass.runningIndex
              else updateIndex c.pass.runningIndex (columnError budget columns c.pass.column total)
                (tolerance budget columns)
            bitCount := total
            predictors := predictors
            currentByte := st.currentByte
            stored := st.stored
            clippedMark := clipped
            overMark := c.pass.overMark || (c.pass.pass != .three && decide (8 * budget < total)) }
        area := st.area } := by
  subst count
  rw [← nextRunning_eq, ← endsEarly_eq]
  rfl

/-- The column of a lane, coded and steered (R27, R29, R45). -/
theorem columnCoded_eq {top bottom : TileLevels} {st : Stream} {total budget columns : Nat}
    {clipsTop clipsBottom : Bool} (budgeted : (s.job p.job).budget = budget)
    (columned : (s.job p.job).columns = columns)
    (first : tileLevels q p.pass p.runningIndex (tilePixels b p.column 0) = top)
    (second : tileLevels q p.pass p.runningIndex (tilePixels b p.column 8) = bottom)
    (clipsFirst : tileClips q p.pass p.runningIndex (tilePixels b p.column 0) = clipsTop)
    (clipsSecond : tileClips q p.pass p.runningIndex (tilePixels b p.column 8) = clipsBottom)
    (stream : Stream.push budget (Coding.stream { pass := p, area := r.area })
      (tileBits p.predictors top ++ tileBits (predictorsAfter top) bottom) = st)
    (count : st.bitCount = total) :
    s.columnCoded p q b r =
      { pass :=
          { p with
            runningIndex :=
              if p.pass = .three then p.runningIndex
              else updateIndex p.runningIndex (columnError budget columns p.column total)
                (tolerance budget columns)
            bitCount := total
            predictors := predictorsAfter bottom
            currentByte := st.currentByte
            stored := st.stored
            clippedMark := p.clippedMark || clipsTop || clipsBottom
            overMark := p.overMark || (p.pass != .three && decide (8 * budget < total)) }
        area := st.area } := by
  have coded := codeColumn_eq q budget b { pass := p, area := r.area } first second
  rw [clipsFirst, clipsSecond, stream] at coded
  rw [State.columnCoded, budgeted, columned, coded]
  exact coded_steered { pass := p, area := r.area } _ _ count budget columns

/-- A column event of a lane that runs a pass (R45). -/
theorem columnEvent_coded (coded : Coded s l p b q r) (coding : s.columnCoded p q b r = c) :
    (endsHere s c → columnEventOf l s = some (s.endPass l c)) ∧
      (¬endsHere s c → columnEventOf l s = some (s.nextColumn l c)) := by
  have run := coding ▸ columnCoded_sameRun s p q b r
  have ends : (c.pass.overMark || decide ((s.job p.job).columns ≤ c.pass.column + 1)) = true ↔
      endsHere s c := by
    rw [endsHere, run.job, Bool.or_eq_true, decide_eq_true_iff]
  unfold columnEventOf
  simp only [coded.lane, coded.band, coded.profile, coded.reserved, coding]
  exact ⟨fun h => if_pos (ends.mpr h), fun h => if_neg (mt ends.mp h)⟩

/-- The lane goes on to its next column, as the statements write it (R45). -/
theorem columnEvent_goesOn (coded : Coded s l p b q r) (coding : s.columnCoded p q b r = c)
    (goesOn : ¬endsHere s c) :
    exec (.columnEvent l) s = .next (State.settle
      ({ s with lanes := s.lanes.set l (some { c.pass with column := c.pass.column + 1 }) }.setJob
        p.job { s.job p.job with reservation := some { r with area := c.area } })) := by
  have job : c.pass.job = p.job := coding ▸ (columnCoded_sameRun s p q b r).job
  have same : (s.setLane l (some { c.pass with column := c.pass.column + 1 })).job p.job =
      s.job p.job := rfl
  have due := (columnEvent_coded coded coding).2 goesOn
  rw [State.nextColumn, job, State.modifyJob, same, coded.reserved] at due
  exact congrArg _ (occur_some coded.powered due)

end

/-- Settles O38. -/
theorem columnCoded : Obligations.ColumnCoded := by
  refine ⟨fun b column top x y hx hy rows width some_ wide => ?_, fun s l p b q r coded => ?_⟩
  · obtain ⟨pixel, sample, stored⟩ := tilePixels_sample column top hx hy rows width some_ wide
    intro sample' stored'
    have clamped : sample' =
        stored' (min (top + y) (b.rowsNeeded - 1)) (min (8 * column + x) (b.width - 1)) :=
      sample.trans stored.symm
    refine ⟨Option.isSome_iff_exists.mpr ⟨pixel, sample⟩, fun inside => ⟨fun near => ?_,
      fun past => ?_⟩, fun below => ⟨fun near => ?_, fun past => ?_⟩⟩
    · rw [clamped, Nat.min_eq_left (by omega), Nat.min_eq_left (by omega)]
    · rw [clamped, Nat.min_eq_left (by omega), Nat.min_eq_right (by omega)]
    · rw [clamped, Nat.min_eq_right (by omega), Nat.min_eq_left (by omega)]
    · rw [clamped, Nat.min_eq_right (by omega), Nat.min_eq_right (by omega)]
  · intro budget columns top bottom bits stream total coded'
    have shape : s.columnCoded p q b r = { pass := coded', area := stream.area } :=
      columnCoded_eq rfl rfl rfl rfl rfl rfl rfl (push_bitCount ..)
    have column : coded'.column = p.column := rfl
    clear_value coded' stream
    refine ⟨shape, fun goesOn => ?_⟩
    rw [← column]
    exact columnEvent_goesOn coded shape goesOn

end Sys2Proof.Laws
end

/-! ## The pass end and its decision (O39) -/

section
namespace Sys2Proof.Laws
open Sys2Proof.Machine

section
variable {v : Job} {c : Coding} {r : Reservation}

theorem meets_iff (a b : Conditions) : a.meets b = true ↔ haltDue a b := by
  simp only [Conditions.meets, haltDue, Bool.or_eq_true, Bool.and_eq_true, or_assoc]

theorem haltsHere_iff (v : Job) :
    v.haltsHere = true ↔ haltDue v.causes v.halts ∨ v.state = .stopping .halt := by
  rw [Job.haltsHere, Bool.or_eq_true, meets_iff, beq_iff_eq]

theorem haltsHere_eq_false (goesOn : v.haltsHere = false) : v.state ≠ .stopping .halt :=
  fun halt => by
    rw [(haltsHere_iff v).mpr (.inr halt)] at goesOn
    cases goesOn

/-- The results of a pass end, as the statements write them (R42, R50, R116). -/
theorem passResults_reserved (reserved : v.reservation = some r) :
    v.passResults c = passRaised v c.pass { r with area := c.area } := by
  rw [passResults_eq, reserved]
  rfl

/-- The state a job takes after the commit of its pass (R109, R118). -/
def stateAfterCommit (v : Job) : JobState :=
  if v.state = .stopping .pause then .paused
  else if v.emitted + 1 = v.bands then .done
  else .running

theorem afterCommit_banked (bare : v.withheld = none) (codes : v.state.coding = true)
    (going : v.state ≠ .stopping .halt) :
    (bankedJob v).afterCommit = v.banked (stateAfterCommit v) := by
  have shape (st : JobState) : v.banked st =
      { bankedJob v with
        state := st
        noticePending := if st = v.state then v.noticePending else stateNoted v
        timer := if st = .done then { v.timer with running := false, buffered := none }
          else v.timer } := by
    rw [Job.banked, ← bare]
    rfl
  rw [shape, stateAfterCommit]
  by_cases paused : v.state = .stopping .pause
  · rw [if_pos paused, if_neg (by simp [paused]), if_neg (by simp)]
    exact (if_pos paused).trans (enter_eq_moved (j := bankedJob v) (by simp [paused]))
  · have running : v.state = .running := by
      cases state : v.state with
      | running => rfl
      | stopping r => cases r with
        | pause => exact absurd state paused
        | halt => exact absurd state going
      | _ => simp [state, JobState.coding] at codes
    rw [if_neg paused]
    refine (if_neg paused).trans ?_
    by_cases last : v.emitted + 1 = v.bands
    · rw [if_pos last, if_neg (by simp [running]), if_pos rfl]
      refine (if_pos last).trans (enter_eq_moved (j := { bankedJob v with
        timer := { v.timer with running := false, buffered := none } }) (by simp [running]))
    · rw [if_neg last, if_pos running.symm, if_neg (by simp)]
      refine (if_neg last).trans ((enter_self (j := bankedJob v) running).trans ?_)
      rw [← running]
      rfl

/-! ### The three cases of the decision (R118) -/

section
variable {s : State} {l : Fin 2} {p : PassState} {b : BandSlot} {q : Profile} {r : Reservation}
  {c done : Coding}

/-- The end of a pass, before its decision (R50). -/
theorem endPass_eq (job : c.pass.job = p.job)
    (reserved : (s.job p.job).reservation = some r)
    (ended : c.finish (s.job p.job).budget = done) :
    s.endPass l c =
      (s.setJob p.job (passRaised (s.job p.job) done.pass { r with area := done.area })).decidePass l
        done := by
  rw [State.endPass, job, ended, State.modifyJob, passResults_reserved reserved]

variable {v : Job}

theorem setLane_modifyJob (s : State) (l : Fin 2) (o : Option PassState) (j : Fin 8)
    (g : Job → Job) : (s.setLane l o).modifyJob j g = (s.modifyJob j g).setLane l o := rfl

theorem decidePass_halts (run : SameRun p done.pass) (halts : v.haltsHere = true)
    (going : v.state ≠ .halted) :
    (s.setJob p.job v).decidePass l done =
      { s with lanes := s.lanes.set l none }.setJob p.job
        { v.moved .halted with
          withheld := some
            { slot := p.slot, band := p.band, pass := p.pass
              complete := decide (p.column + 1 = v.columns)
              fits := !done.pass.overMark, stored := done.pass.stored
              startIndex := p.startIndex, clippedMark := done.pass.clippedMark } } := by
  have job : (s.setJob p.job v).job p.job = v := job_setJob_same s p.job v
  have withheld : withheldOf done.pass v.columns =
      { slot := p.slot, band := p.band, pass := p.pass
        complete := decide (p.column + 1 = v.columns)
        fits := !done.pass.overMark, stored := done.pass.stored
        startIndex := p.startIndex, clippedMark := done.pass.clippedMark } := by
    rw [withheldOf, run.slot, run.band, run.pass, run.column, run.startIndex]
  have lanes : ((s.setJob p.job v).setLane l none).job p.job = v := job
  have moved (w : Option Withheld) :
      Job.enter { v with withheld := w } .halted = { v.moved .halted with withheld := w } :=
    enter_eq_moved (j := { v with withheld := w }) going
  rw [State.decidePass, run.job, job, if_pos halts, State.haltPass, run.job, State.modifyJob, lanes,
    withheld, moved]
  exact setJob_setJob { s with lanes := s.lanes.set l none } p.job v _

theorem decidePass_climbs (run : SameRun p done.pass) (goesOn : v.haltsHere = false)
    (unfit : done.pass.overMark = true) :
    (s.setJob p.job v).decidePass l done =
      { s with
        lanes := s.lanes.set l (some (beginPass p.job p.slot p.band p.pass.ladder
          (ladderIndex p.pass.ladder v.index))) }.setJob p.job v := by
  have job : (s.setJob p.job v).job p.job = v := job_setJob_same s p.job v
  rw [State.decidePass, run.job, job, if_neg (by simp [goesOn]), if_pos unfit, State.climb, run.pass,
    run.job, job, run.slot, run.band]
  rfl

theorem decidePass_commits (run : SameRun p done.pass) (goesOn : v.haltsHere = false)
    (fits : done.pass.overMark = false) (bare : v.withheld = none) (codes : v.state.coding = true)
    (due : v.due = (s.job p.job).due) (budget : v.budget = (s.job p.job).budget)
    (columns : v.columns = (s.job p.job).columns) :
    (s.setJob p.job v).decidePass l done =
      { s.setJob p.job (v.banked (stateAfterCommit v)) with
        lanes := s.lanes.set l none
        records := s.records ++
          [bandRecord s p.job p.band p.pass.number done.pass.clippedMark (p.pass == .two) false
            false p.startIndex (done.area.take done.pass.stored)]
        commitCount := s.commitCount + 1
        slots := s.slots.set p.slot (slotWithout p.job s.slots[p.slot]) } := by
  have job : (s.setJob p.job v).job p.job = v := job_setJob_same s p.job v
  have record : (s.setJob p.job v).recordFor p.job (passSource done) =
      bandRecord s p.job p.band p.pass.number done.pass.clippedMark (p.pass == .two) false false
        p.startIndex (done.area.take done.pass.stored) := by
    simp only [recordFor_eq, passSource, bandRecord, job, due, budget, columns, run.band, run.pass,
      run.startIndex]
    rfl
  rw [State.decidePass, run.job, job, if_neg (by simp [goesOn]), if_neg (by simp [fits]),
    State.commitPass, run.job, commit_eq, job, record, setLane_modifyJob, committed_modifyJob,
    afterCommit_banked bare codes (haltsHere_eq_false goesOn), State.committed, setJob_setJob]
  have slot : (passSource done).slot = p.slot := run.slot
  rw [slot]
  rfl

end

end

/-- Settles O39. -/
theorem passEndDecision : Obligations.PassEndDecision := by
  intro s l p b q r c done coded coding ends ended bare codes raised halts st start
  have first : SameRun p c.pass := coding ▸ columnCoded_sameRun s p q b r
  have run : SameRun p done.pass := first.trans (ended ▸ finish_sameRun _ c)
  have due := (columnEvent_coded coded coding).1 ends
  rw [endPass_eq first.job coded.reserved ended] at due
  have taken {t : State} (decided : (s.setJob p.job raised).decidePass l done = t) :
      exec (.columnEvent l) s = .next t.settle := by
    subst decided
    exact congrArg _ (occur_some coded.powered due)
  have halts_iff : raised.haltsHere = true ↔ halts := haltsHere_iff raised
  refine ⟨fun halted => taken ?_, fun going fits => taken ?_, fun going unfit climbs => taken ?_⟩
  · exact decidePass_halts run (halts_iff.mpr halted) fun state => by
      rw [show (s.job p.job).state = .halted from state] at codes
      cases codes
  · have goesOn := Bool.eq_false_iff.mpr (mt halts_iff.mp going)
    exact decidePass_commits run goesOn fits bare codes rfl rfl rfl
  · have goesOn := Bool.eq_false_iff.mpr (mt halts_iff.mp going)
    rw [decidePass_climbs run goesOn unfit]
    have index : raised.index = if done.pass.pass = .three then (s.job p.job).index
        else done.pass.runningIndex := rfl
    rw [run.pass, if_neg climbs] at index
    rw [index]
    cases pass : p.pass with
    | one => simp only [start, pass]; rfl
    | two => simp only [start, pass]; rfl
    | three => exact absurd pass climbs

end Sys2Proof.Laws
end

/-! ## Steps and rounding (O42) -/

section
namespace Sys2Proof.Laws
open Sys2Proof.Machine

/-! ### Steps (R13) -/

theorem acStep_low {base weight index : Nat} (some_ : 128 ≤ base * weight * (index + 16))
    (low : base * weight * (index + 16) ≤ 65407) :
    acStep base weight index = (base * weight * (index + 16) + 128) / 256 := by
  unfold acStep clampNat
  omega

theorem acStep_high {base weight index : Nat} (high : 65407 < base * weight * (index + 16)) :
    acStep base weight index = 255 := by
  unfold acStep clampNat
  omega

theorem acStep_bounds (base weight index : Nat) :
    1 ≤ acStep base weight index ∧ acStep base weight index ≤ 255 := by
  unfold acStep clampNat
  omega

theorem acSteps_getElem? (base : BaseSteps) (weight index : Nat) {i : Nat} (small : i < 63) :
    (acSteps base weight index)[i]? = some (acStep
      (if i + 1 ≤ 3 then base.s3 else if i + 1 ≤ 15 then base.s2 else base.s1) weight index) := by
  unfold acSteps
  by_cases third : i < 3
  · rw [List.append_assoc, List.getElem?_append_left (by simpa using third),
      List.getElem?_replicate, if_pos third, if_pos (by omega)]
  by_cases second : i < 15
  · rw [List.getElem?_append_left (by simp; omega), List.getElem?_append_right (by simp; omega),
      List.getElem?_replicate, if_pos (by simp; omega), if_neg (by omega), if_pos (by omega)]
  · rw [List.getElem?_append_right (by simp; omega), List.getElem?_replicate,
      if_pos (by simp; omega), if_neg (by omega), if_neg (by omega)]

/-! ### Rounding (R16, R17) -/

/-- Rounding at a fraction of the step: the quotient, and one more from the fraction up. -/
theorem scaled_quotient (k c t : Nat) (hk : 1 ≤ k) (ht : 1 ≤ t) :
    (k * c + t) / (k * t) = c / t + (k * (c % t) + t) / (k * t) := by
  have split : k * c + t = (k * (c % t) + t) + k * t * (c / t) := by
    conv_lhs => rw [← Nat.mod_add_div c t]
    ring
  rw [split, Nat.add_mul_div_left _ _ (Nat.mul_pos hk ht), Nat.add_comm]

theorem quotient_nearest (c : Nat) {t : Nat} (ht : 1 ≤ t) :
    Rounding.quotient .nearest c t = c / t + (if t ≤ 2 * (c % t) then 1 else 0) := by
  have rest := Nat.mod_lt c ht
  rw [Rounding.quotient, scaled_quotient 2 c t (by decide) ht]
  congr 1
  split_ifs with up
  · exact Nat.div_eq_of_lt_le (by omega) (by omega)
  · exact Nat.div_eq_of_lt (by omega)

theorem quotient_soft (c : Nat) {t : Nat} (ht : 1 ≤ t) :
    Rounding.quotient .soft c t = c / t + (if 3 * t ≤ 4 * (c % t) then 1 else 0) := by
  have rest := Nat.mod_lt c ht
  rw [Rounding.quotient, scaled_quotient 4 c t (by decide) ht]
  congr 1
  split_ifs with up
  · exact Nat.div_eq_of_lt_le (by omega) (by omega)
  · exact Nat.div_eq_of_lt (by omega)

/-! ### Levels and their clamp (R16, R19) -/

section
variable (m : Rounding) (t : Nat) (c : Int)

theorem clips_iff : clips m t c = true ↔ 255 < m.quotient c.natAbs t := decide_eq_true_iff

theorem levelOf_natAbs : (levelOf m t c).natAbs = min 255 (m.quotient c.natAbs t) := by
  unfold levelOf
  simp only
  split_ifs <;> omega

theorem levelOf_neg : levelOf m t (-c) = -levelOf m t c := by
  have zero : m.quotient 0 t = 0 := by
    cases m <;> simp only [Rounding.quotient, Nat.mul_zero, Nat.zero_add, Nat.zero_div]
    · exact Nat.div_eq_zero_iff.mpr (by omega)
    · exact Nat.div_eq_zero_iff.mpr (by omega)
  unfold levelOf
  rw [Int.natAbs_neg]
  obtain neg | rfl | pos := lt_trichotomy c 0
  · rw [if_neg (by omega), if_pos neg, neg_neg]
  · simp [zero]
  · rw [if_pos (by omega), if_neg (by omega)]

theorem levelOf_nonneg (h : 0 ≤ c) : 0 ≤ levelOf m t c := by
  unfold levelOf
  rw [if_neg (by omega)]
  exact Int.natCast_nonneg _

end

/-- DC in NEAREST is never clamped (R18, R19). -/
theorem clips_nearest_dc {t : Nat} {c : Int} (ht : 1 ≤ t) (small : c.natAbs ≤ 255) :
    clips .nearest t c = false := by
  rw [Bool.eq_false_iff, ne_eq, clips_iff, not_lt, Rounding.quotient]
  exact Nat.lt_succ_iff.mp ((Nat.div_lt_iff_lt_mul (by omega)).mpr (by omega))

/-! ### The levels of a component (R14 to R20) -/

theorem effectiveIndex_eq {pass : Pass} (ceiling running : Nat) :
    effectiveIndex pass ceiling running = if pass = .one then min running ceiling else running := by
  cases pass <;> rfl

section
variable {pass : Pass} (base : BaseSteps) (z : ZoneSettings) (running : Nat) (coeffs : List Int)

theorem componentLevels_ac (other : pass ≠ .three) :
    (componentLevels pass base z running coeffs).ac =
      List.zipWith (levelOf z.rounding)
        (acSteps base z.weight (if pass = .one then min running z.ceiling else running))
        coeffs.tail := by
  rw [← effectiveIndex_eq]
  cases pass with
  | one => rfl
  | two => rfl
  | three => exact absurd rfl other

theorem componentClips_eq (other : pass ≠ .three) :
    componentClips pass base z running coeffs =
      (List.zipWith (clips z.rounding)
        (acSteps base z.weight (if pass = .one then min running z.ceiling else running))
        coeffs.tail).any id := by
  rw [← effectiveIndex_eq]
  cases pass with
  | one => rfl
  | two => rfl
  | three => exact absurd rfl other

theorem any_zipWith {α β : Type} (g : α → β → Bool) (as : List α) (bs : List β) :
    (List.zipWith g as bs).any id = true ↔
      ∃ (i : Nat) (b : β) (a : α), bs[i]? = some b ∧ as[i]? = some a ∧ g a b = true := by
  simp only [List.any_eq_true, id, exists_eq_right, List.mem_iff_getElem?,
    List.getElem?_zipWith_eq_some]
  exact exists_congr fun i =>
    ⟨fun ⟨a, b, left, right, holds⟩ => ⟨b, a, right, left, holds⟩,
      fun ⟨b, a, right, left, holds⟩ => ⟨a, b, left, right, holds⟩⟩

end

/-- Settles O42. -/
theorem stepsAndRounding : Obligations.StepsAndRounding := by
  refine ⟨fun base weight index hb _ hw _ _ => ⟨acStep_bounds .., fun low => ?_, acStep_high⟩,
    fun base weight index i small => acSteps_getElem? base weight index small,
    fun c t ht => ?_, fun m t c => ?_, fun t c => clips_nearest_dc,
    fun pass base z running coeffs => ?_, fun p pass running tile => ⟨rfl, ?_⟩⟩
  · refine acStep_low ?_ low
    calc 128 ≤ 1 * 8 * 16 := by decide
      _ ≤ base * weight * (index + 16) :=
        Nat.mul_le_mul (Nat.mul_le_mul hb hw) (Nat.le_add_left ..)
  · rw [quotient_nearest c ht, quotient_soft c ht]
    refine ⟨rfl, rfl, rfl, Nat.add_le_add_left ?_ _, Nat.le_add_right ..⟩
    split_ifs <;> omega
  · have magnitude := levelOf_natAbs m t c
    rw [← Bool.not_eq_true, clips_iff]
    exact ⟨levelOf_neg m t c, levelOf_nonneg m t c, Iff.rfl, fun h => by omega, fun h => by omega⟩
  · intro steps
    refine ⟨rfl, rfl, rfl, fun other => ⟨fun full => ?_, fun i c t coeff step => ?_, ?_⟩⟩
    · rw [componentLevels_ac base z running coeffs other, List.length_zipWith, List.length_tail, full]
      simp [acSteps]
    · rw [componentLevels_ac base z running coeffs other, List.getElem?_zipWith_eq_some]
      exact ⟨t, c, step, coeff, rfl⟩
    · rw [componentClips_eq base z running coeffs other]
      exact any_zipWith ..
  · rw [tileClips, Bool.or_eq_true, Bool.or_eq_true, or_assoc]

end Sys2Proof.Laws
end

/-! ## Reading a payload back (O46) -/

section
namespace Sys2Proof.Laws
open Sys2Proof.Machine

/-! ### The two codes (R23, R24) -/

theorem readZeros_replicate (m : Nat) (rest : List Bool) :
    readZeros (List.replicate m false ++ true :: rest) = (m, true :: rest) := by
  induction m with
  | zero => rfl
  | succ m ih => rw [List.replicate_succ, List.cons_append, readZeros, ih]

theorem readBits_bitsMsb (width acc n : Nat) (rest : List Bool) :
    readBits width acc (bitsMsb width n ++ rest) = some (acc * 2 ^ width + n % 2 ^ width, rest) := by
  induction width generalizing acc with
  | zero => simp [bitsMsb, readBits, Nat.mod_one]
  | succ width ih =>
    have bit : n % 2 ^ (width + 1) = (n.testBit width).toNat * 2 ^ width + n % 2 ^ width := by
      rw [Nat.mod_pow_succ, Nat.toNat_testBit, Nat.mul_comm, Nat.add_comm]
    rw [bitsMsb, List.cons_append, readBits, ih, bit]
    congr 2
    ring

theorem readUeg0_ueg0 (n : Nat) (rest : List Bool) :
    readUeg0 (ueg0 n ++ rest) = some (n, rest) := by
  have top : (n + 1).testBit (n + 1).log2 = true :=
    Nat.testBit_log2 (Nat.succ_ne_zero n)
  have low : n + 1 < 2 ^ ((n + 1).log2 + 1) := Nat.lt_log2_self
  have code : ueg0 n ++ rest = List.replicate (n + 1).log2 false ++
      true :: (bitsMsb (n + 1).log2 (n + 1) ++ rest) := by
    rw [ueg0, bitsMsb, top, List.append_assoc]
    rfl
  have number := readBits_bitsMsb ((n + 1).log2 + 1) 0 (n + 1) rest
  rw [bitsMsb, top, List.cons_append, Nat.zero_mul, Nat.zero_add, Nat.mod_eq_of_lt low] at number
  rw [readUeg0, code, readZeros_replicate]
  simp only [number, Nat.add_sub_cancel]

theorem seg0Value_index (v : Int) : seg0Value (seg0Index v) = v := by
  unfold seg0Value seg0Index
  split_ifs <;> omega

/-! ### The entries of an AC list (R26) -/

/-- The entries give the levels back, but for zeros at the end. -/
theorem readEntries_entryBits (ac : List Int) (run : Nat) (rest : List Bool) :
    ∃ levels zeros, readEntries (nonzeroCount ac) (entryBits run ac ++ rest) = some (levels, rest) ∧
      levels ++ List.replicate zeros 0 = List.replicate run 0 ++ ac := by
  induction ac generalizing run with
  | nil => exact ⟨[], run, rfl, by simp⟩
  | cons v ac ih =>
    by_cases zero : v = 0
    · obtain ⟨levels, zeros, read, same⟩ := ih (run + 1)
      refine ⟨levels, zeros, ?_, ?_⟩
      · rw [entryBits, if_pos zero, ← read, nonzeroCount, List.countP_cons_of_neg (by simp [zero])]
        rfl
      · rw [same, zero, List.replicate_succ', List.append_assoc]
        rfl
    · obtain ⟨levels, zeros, read, same⟩ := ih 0
      have count : nonzeroCount (v :: ac) = nonzeroCount ac + 1 :=
        List.countP_cons_of_pos (by simp [zero])
      have level : (if decide (v < 0) = true then -(((v.natAbs - 1 + 1 : Nat) : Int))
          else ((v.natAbs - 1 + 1 : Nat) : Int)) = v := by
        simp only [decide_eq_true_eq]
        split_ifs <;> omega
      refine ⟨List.replicate run 0 ++ v :: levels, zeros, ?_, ?_⟩
      · rw [count, entryBits, if_neg zero, readEntries]
        simp only [List.append_assoc, List.cons_append, List.nil_append, readUeg0_ueg0, read, level]
      · rw [List.append_assoc, List.cons_append, same]
        rfl

/-! ### Components and tiles (R25, R27) -/

theorem readComponent_bits (predictor : Int) {c : ComponentLevels} (full : c.ac.length = 63)
    (rest : List Bool) :
    readComponent predictor (componentBits predictor c ++ rest) = some (c, rest) := by
  obtain ⟨levels, zeros, read, same⟩ := readEntries_entryBits c.ac 0 rest
  rw [List.replicate_zero, List.nil_append] at same
  have length : levels.length + zeros = 63 := by
    rw [← full, ← same, List.length_append, List.length_replicate]
  have padded : 63 - levels.length = zeros := by omega
  have dc : predictor + seg0Value (seg0Index (c.dc - predictor)) = c.dc := by
    rw [seg0Value_index]
    omega
  rw [readComponent, componentBits, seg0]
  simp only [List.append_assoc, readUeg0_ueg0, read]
  rw [if_neg (by omega), padded, same, dc]

theorem readTile_bits (p : Predictors) {t : TileLevels} (y : t.y.ac.length = 63)
    (u : t.u.ac.length = 63) (v : t.v.ac.length = 63) (rest : List Bool) :
    readTile p (tileBits p t ++ rest) = some (t, rest) := by
  have zone : zoneOfCode (0 * 2 ^ 3 + t.zone.code % 2 ^ 3) = some t.zone := by
    cases t.zone <;> rfl
  rw [readTile, tileBits]
  simp only [List.append_assoc, readBits_bitsMsb, zone, readComponent_bits _ y,
    readComponent_bits _ u, readComponent_bits _ v]

/-- Settles O46. -/
theorem payloadReadsBack : Obligations.PayloadReadsBack := by
  intro ts
  induction ts with
  | nil => exact fun _ _ _ => rfl
  | cons t ts ih =>
    intro p after full
    obtain ⟨y, u, v⟩ := full t (by simp)
    rw [List.length_cons, tilesBits, List.append_assoc, readTiles]
    simp only [readTile_bits p y u v, ih (predictorsAfter t) after fun t mem => full t (by simp [mem])]

end Sys2Proof.Laws
end

/-! ## Sizes at the extremes (O45) -/

section
namespace Sys2Proof.Laws
open Sys2Proof.Machine

theorem bitsMsb_length (width n : Nat) : (bitsMsb width n).length = width := by
  induction width with
  | zero => rfl
  | succ width ih => rw [bitsMsb, List.length_cons, ih]

theorem ueg0_length (n : Nat) : (ueg0 n).length = 2 * (n + 1).log2 + 1 := by
  rw [ueg0, List.length_append, List.length_replicate, bitsMsb_length]
  omega

/-- A code of a number below a power of two, less one (R23). -/
theorem ueg0_length_le {n m : Nat} (h : n + 1 < 2 ^ (m + 1)) : (ueg0 n).length ≤ 2 * m + 1 := by
  have := (Nat.log2_lt (by omega)).mpr h
  rw [ueg0_length]
  omega

/-- A run and its code take no more than 17 bits a position (R35). -/
theorem entryBits_length_le {ac : List Int} (small : ∀ x ∈ ac, x.natAbs ≤ 255) (run : Nat) :
    (entryBits run ac).length ≤ 17 * (run + ac.length) := by
  induction ac generalizing run with
  | nil => exact Nat.zero_le _
  | cons v ac ih =>
    have rest := fun run => ih (fun x mem => small x (by simp [mem])) run
    rw [entryBits, List.length_cons]
    split_ifs with zero
    · have := rest (run + 1)
      omega
    · have later := rest 0
      have magnitude : (ueg0 (v.natAbs - 1)).length ≤ 2 * 7 + 1 := by
        have low := small v (by simp)
        exact ueg0_length_le (by omega)
      have runs : (ueg0 run).length ≤ 2 * run + 1 := ueg0_length_le Nat.lt_two_pow_self
      simp only [List.length_append, List.length_singleton]
      omega

theorem seg0_length_le {v : Int} {m : Nat} (h : 2 * v.natAbs + 1 < 2 ^ (m + 1)) :
    (seg0 v).length ≤ 2 * m + 1 := by
  refine ueg0_length_le (Nat.lt_of_le_of_lt ?_ h)
  unfold seg0Index
  split_ifs <;> omega

section
variable {predictor : Int} {c : ComponentLevels} {m : Nat}

theorem componentBits_length_le (delta : 2 * (c.dc - predictor).natAbs + 1 < 2 ^ (m + 1))
    (full : c.ac.length = 63) (small : ∀ x ∈ c.ac, x.natAbs ≤ 255) :
    (componentBits predictor c).length ≤ 2 * m + 1 + 13 + 1071 := by
  have dc := seg0_length_le delta
  have count : (ueg0 (nonzeroCount c.ac)).length ≤ 2 * 6 + 1 := by
    have few : nonzeroCount c.ac ≤ c.ac.length := List.countP_le_length
    exact ueg0_length_le (by omega)
  have entries := entryBits_length_le small 0
  rw [componentBits, List.length_append, List.length_append]
  omega

theorem componentBits_length_zero (delta : 2 * (c.dc - predictor).natAbs + 1 < 2 ^ (m + 1))
    (zero : c.ac = List.replicate 63 0) : (componentBits predictor c).length ≤ 2 * m + 2 := by
  have dc := seg0_length_le delta
  have ac : (ueg0 (nonzeroCount c.ac)).length = 1 ∧ (entryBits 0 c.ac).length = 0 := by
    rw [zero]
    exact ⟨by decide, by decide⟩
  rw [componentBits, List.length_append, List.length_append]
  omega

end

/-- Settles O45. -/
theorem tileSizes : Obligations.TileSizes := by
  refine ⟨fun p t y u v levels => ?_, fun columns => ⟨?_, le_max_right .., fun budget =>
    ⟨le_max_left .., fun narrow => ?_⟩⟩⟩
  · have dY : 2 * (t.y.dc - p.y).natAbs + 1 < 2 ^ (8 + 1) := by omega
    have dU : 2 * (t.u.dc - p.u).natAbs + 1 < 2 ^ (9 + 1) := by omega
    have dV : 2 * (t.v.dc - p.v).natAbs + 1 < 2 ^ (9 + 1) := by omega
    have parts : (tileBits p t).length = 3 + (componentBits p.y t.y).length +
        (componentBits p.u t.u).length + (componentBits p.v t.v).length := by
      rw [tileBits, List.length_append, List.length_append, List.length_append, bitsMsb_length]
    simp only [List.forall_mem_cons, List.not_mem_nil, false_imp_iff, implies_true, and_true] at levels
    obtain ⟨⟨yFull, ySmall⟩, ⟨uFull, uSmall⟩, vFull, vSmall⟩ := levels
    have atY := componentBits_length_le dY yFull ySmall
    have atU := componentBits_length_le dU uFull uSmall
    have atV := componentBits_length_le dV vFull vSmall
    refine ⟨by omega, fun zeros => ?_⟩
    have zeroY := componentBits_length_zero dY (zeros t.y (by simp))
    have zeroU := componentBits_length_zero dU (zeros t.u (by simp))
    have zeroV := componentBits_length_zero dV (zeros t.v (by simp))
    omega
  · have ceiling : ⌈(122 * columns : ℚ) / 8⌉ = ((122 * columns + 7) / 8 : Nat) := by
      have quotient := Rat.ceil_intCast_div_natCast (122 * columns : Nat) 8
      push_cast at quotient ⊢
      rw [quotient]
      omega
    rw [ceiling]
    rfl
  · unfold clampBudget clampNat budgetFloor Config.budgetCeiling
    omega

end Sys2Proof.Laws
end

/-! ## The tile transform, cell by cell (R5 to R9) -/

section
namespace Sys2Proof.Laws
open Sys2Proof.Machine

/-! ### The row step (R6) -/

theorem smooths_length (row : List Int) : (smooths row).length = row.length / 2 := by
  fun_induction smooths row with
  | case1 a b rest ih =>
    simp only [List.length_cons, ih]
    omega
  | case2 row short =>
    match row with
    | [] => rfl
    | [_] => simp
    | a :: b :: rest => exact absurd rfl (short a b rest)

theorem details_length (row : List Int) : (details row).length = row.length / 2 := by
  fun_induction details row with
  | case1 a b rest ih =>
    simp only [List.length_cons, ih]
    omega
  | case2 row short =>
    match row with
    | [] => rfl
    | [_] => simp
    | a :: b :: rest => exact absurd rfl (short a b rest)

theorem smooths_getD (row : List Int) {k : Nat} (inside : 2 * k + 1 < row.length) :
    (smooths row).getD k 0 = smooth (row.getD (2 * k) 0) (row.getD (2 * k + 1) 0) := by
  induction k generalizing row with
  | zero =>
    match row, inside with
    | a :: b :: rest, _ => rfl
  | succ k ih =>
    match row, inside with
    | a :: b :: rest, inside => exact ih rest (by simp only [List.length_cons] at inside; omega)

theorem details_getD (row : List Int) {k : Nat} (inside : 2 * k + 1 < row.length) :
    (details row).getD k 0 = detail (row.getD (2 * k) 0) (row.getD (2 * k + 1) 0) := by
  induction k generalizing row with
  | zero =>
    match row, inside with
    | a :: b :: rest, _ => rfl
  | succ k ih =>
    match row, inside with
    | a :: b :: rest, inside => exact ih rest (by simp only [List.length_cons] at inside; omega)

section
variable {h : Nat} {row : List Int} (length : row.length = 2 * h)
include length

theorem liftRow_length : (liftRow row).length = 2 * h := by
  rw [liftRow, List.length_append, smooths_length, details_length, length]
  omega

theorem liftRow_low {k : Nat} (small : k < h) :
    (liftRow row).getD k 0 = smooth (row.getD (2 * k) 0) (row.getD (2 * k + 1) 0) := by
  rw [liftRow, List.getD_append _ _ _ _ (by rw [smooths_length]; omega),
    smooths_getD row (by omega)]

theorem liftRow_high {k : Nat} (small : k < h) :
    (liftRow row).getD (h + k) 0 = detail (row.getD (2 * k) 0) (row.getD (2 * k + 1) 0) := by
  have half : (smooths row).length = h := by
    rw [smooths_length]
    omega
  rw [liftRow, List.getD_append_right _ _ _ _ (by omega), half, Nat.add_sub_cancel_left,
    details_getD row (by omega)]

end

/-! ### Blocks and their cells -/

section
variable {n N : Nat} {m a b : List (List Int)}

theorem row_mem (i : Nat) (inside : i < m.length) : m.getD i [] ∈ m := by
  rw [List.getD_eq_getElem m [] inside]
  exact List.getElem_mem inside

theorem block_rowLength (block : IsBlock n m) {i : Nat} (inside : i < n) :
    (m.getD i []).length = n :=
  block.2 _ (row_mem i (block.1 ▸ inside))

/-- Two blocks with the same cells are the same. -/
theorem block_ext (ha : IsBlock n a) (hb : IsBlock n b)
    (cells : ∀ i k, i < n → k < n → cell a i k = cell b i k) : a = b := by
  refine List.ext_getElem (ha.1.trans hb.1.symm) fun i left right => ?_
  have low : i < n := ha.1 ▸ left
  refine List.ext_getElem ((ha.2 _ (List.getElem_mem left)).trans
    (hb.2 _ (List.getElem_mem right)).symm) fun k left' right' => ?_
  have same := cells i k low (ha.2 _ (List.getElem_mem left) ▸ left')
  rw [cell, cell, List.getD_eq_getElem a [] left, List.getD_eq_getElem b [] right,
    List.getD_eq_getElem _ 0 left', List.getD_eq_getElem _ 0 right'] at same
  exact same

theorem cell_map (f : List Int → List Int) {i : Nat} (k : Nat) (inside : i < m.length) :
    cell (m.map f) i k = (f (m.getD i [])).getD k 0 := by
  rw [cell, List.getD_eq_getElem _ [] (by simpa using inside), List.getElem_map,
    List.getD_eq_getElem m [] inside]

theorem map_block (block : IsBlock n m) {f : List Int → List Int} {n' : Nat}
    (keeps : ∀ row, row.length = n → (f row).length = n') :
    (m.map f).length = n ∧ ∀ row ∈ m.map f, row.length = n' := by
  refine ⟨by rw [List.length_map, block.1], fun row mem => ?_⟩
  obtain ⟨old, old_mem, rfl⟩ := List.mem_map.mp mem
  exact keeps old (block.2 old old_mem)

/-! ### Rows and columns exchanged -/

theorem transpose_cons (n : Nat) (row : List Int) (m : List (List Int)) :
    transpose n (row :: m) = List.zipWith (· :: ·) row (transpose n m) := rfl

theorem transpose_length (width : ∀ row ∈ m, row.length = n) : (transpose n m).length = n := by
  induction m with
  | nil => exact List.length_replicate
  | cons row m ih =>
    rw [transpose_cons, List.length_zipWith, width row (by simp),
      ih fun r mem => width r (by simp [mem]), Nat.min_self]

theorem transpose_row (width : ∀ row ∈ m, row.length = n) {i : Nat} (inside : i < n) :
    (transpose n m).getD i [] = m.map fun row => row.getD i 0 := by
  induction m with
  | nil => simp [transpose, List.getD_eq_getElem?_getD, inside]
  | cons row m ih =>
    have rest : ∀ r ∈ m, r.length = n := fun r mem => width r (by simp [mem])
    have here : i < row.length := by rw [width row (by simp)]; exact inside
    have there : i < (transpose n m).length := by rw [transpose_length rest]; exact inside
    have tail := ih rest
    rw [List.getD_eq_getElem _ [] there] at tail
    rw [transpose_cons, List.getD_eq_getElem _ [] (by rw [List.length_zipWith]; omega),
      List.getElem_zipWith, tail, List.map_cons, List.getD_eq_getElem row 0 here]

theorem transpose_block (block : IsBlock n m) : IsBlock n (transpose n m) := by
  refine ⟨transpose_length block.2, fun row mem => ?_⟩
  obtain ⟨i, inside, rfl⟩ := List.mem_iff_getElem.mp mem
  rw [← List.getD_eq_getElem _ [] inside,
    transpose_row block.2 (by rwa [transpose_length block.2] at inside), List.length_map, block.1]

theorem cell_transpose (block : IsBlock n m) {i k : Nat} (hi : i < n) (hk : k < n) :
    cell (transpose n m) i k = cell m k i := by
  have inside : k < m.length := block.1 ▸ hk
  rw [cell, transpose_row block.2 hi, List.getD_eq_getElem _ 0 (by simpa using inside),
    List.getElem_map, cell, List.getD_eq_getElem m [] inside]

end

/-! ### One level (R6) -/

section
variable {h : Nat} {m : List (List Int)} (block : IsBlock (2 * h) m)
include block

theorem liftRows_block : IsBlock (2 * h) (m.map liftRow) := map_block block fun _ => liftRow_length

theorem liftRows_low {r k : Nat} (hr : r < 2 * h) (hk : k < h) :
    cell (m.map liftRow) r k = smooth (cell m r (2 * k)) (cell m r (2 * k + 1)) := by
  rw [cell_map _ _ (block.1.symm ▸ hr), liftRow_low (block_rowLength block hr) hk]
  rfl

theorem liftRows_high {r k : Nat} (hr : r < 2 * h) (hk : k < h) :
    cell (m.map liftRow) r (h + k) = detail (cell m r (2 * k)) (cell m r (2 * k + 1)) := by
  rw [cell_map _ _ (block.1.symm ▸ hr), liftRow_high (block_rowLength block hr) hk]
  rfl

theorem liftBlock_block : IsBlock (2 * h) (liftBlock (2 * h) m) :=
  transpose_block (liftRows_block (transpose_block (liftRows_block block)))

/-- The column step on a column of the row step's block: smooth values. -/
theorem liftBlock_low {i k : Nat} (hi : i < h) (hk : k < 2 * h) :
    cell (liftBlock (2 * h) m) i k =
      smooth (cell (m.map liftRow) (2 * i) k) (cell (m.map liftRow) (2 * i + 1) k) := by
  have rows := liftRows_block block
  rw [liftBlock, cell_transpose (liftRows_block (transpose_block rows)) (by omega) hk,
    liftRows_low (transpose_block rows) hk hi, cell_transpose rows hk (by omega),
    cell_transpose rows hk (by omega)]

/-- The column step on a column of the row step's block: detail values. -/
theorem liftBlock_high {i k : Nat} (hi : i < h) (hk : k < 2 * h) :
    cell (liftBlock (2 * h) m) (h + i) k =
      detail (cell (m.map liftRow) (2 * i) k) (cell (m.map liftRow) (2 * i + 1) k) := by
  have rows := liftRows_block block
  rw [liftBlock, cell_transpose (liftRows_block (transpose_block rows)) (by omega) hk,
    liftRows_high (transpose_block rows) hk hi, cell_transpose rows hk (by omega),
    cell_transpose rows hk (by omega)]

end

end Sys2Proof.Laws
end

/-! ## The three levels and the scan order (R7, R9) -/

section
namespace Sys2Proof.Laws
open Sys2Proof.Machine

section
variable {n N : Nat} {m : List (List Int)}

/-! ### The top left of an array (R7) -/

theorem corner_block (block : IsBlock N m) (small : n ≤ N) : IsBlock n (corner n m) := by
  refine ⟨by rw [corner, List.length_map, List.length_take, block.1, Nat.min_eq_left small],
    fun row mem => ?_⟩
  obtain ⟨old, old_mem, rfl⟩ := List.mem_map.mp mem
  rw [List.length_take, block.2 old (List.mem_of_mem_take old_mem), Nat.min_eq_left small]

theorem getD_take {α : Type} (l : List α) (d : α) {i n : Nat} (inside : i < n) :
    (l.take n).getD i d = l.getD i d := by
  rw [List.getD_eq_getElem?_getD, List.getD_eq_getElem?_getD, List.getElem?_take_of_lt inside]

theorem cell_corner (block : IsBlock N m) (small : n ≤ N) {i k : Nat} (hi : i < n) (hk : k < n) :
    cell (corner n m) i k = cell m i k := by
  have inside : i < (m.take n).length := by rw [List.length_take, block.1]; omega
  rw [corner, cell_map _ _ inside, getD_take _ _ hk, getD_take _ _ hi]
  rfl

theorem corner_self (block : IsBlock n m) : corner n m = m :=
  block_ext (corner_block block le_rfl) block fun _ _ hi hk => cell_corner block le_rfl hi hk

/-- A level of the transform replaces the top left of an array and keeps the rest (R7). -/
theorem liftTopLeft_rows (block : IsBlock N m) (small : n ≤ N)
    (lifted : IsBlock n (liftBlock n (corner n m))) (i : Nat) :
    (liftTopLeft n m).getD i [] =
      if i < n then (liftBlock n (corner n m)).getD i [] ++ (m.getD i []).drop n
      else m.getD i [] := by
  have new : (List.zipWith (fun new old => new ++ List.drop n old) (liftBlock n (corner n m))
      (m.take n)).length = n := by
    rw [List.length_zipWith, lifted.1, List.length_take, block.1]
    omega
  have shape : liftTopLeft n m = List.zipWith (fun new old => new ++ List.drop n old)
      (liftBlock n (corner n m)) (m.take n) ++ m.drop n := rfl
  rw [shape]
  split_ifs with top
  · have left : i < (liftBlock n (corner n m)).length := lifted.1.symm ▸ top
    have right : i < (m.take n).length := by rw [List.length_take, block.1]; omega
    rw [List.getD_append _ _ _ _ (by omega), List.getD_eq_getElem _ [] (by omega),
      List.getElem_zipWith, List.getD_eq_getElem _ [] left, ← getD_take m [] top,
      List.getD_eq_getElem _ [] right]
  · rw [List.getD_append_right _ _ _ _ (by omega), new, List.getD_eq_getElem?_getD,
      List.getElem?_drop, List.getD_eq_getElem?_getD, Nat.add_sub_cancel' (by omega)]

theorem liftTopLeft_block (block : IsBlock N m) (small : n ≤ N)
    (lifted : IsBlock n (liftBlock n (corner n m))) : IsBlock N (liftTopLeft n m) := by
  have length : (liftTopLeft n m).length = N := by
    have shape : liftTopLeft n m = List.zipWith (fun new old => new ++ List.drop n old)
        (liftBlock n (corner n m)) (m.take n) ++ m.drop n := rfl
    rw [shape, List.length_append, List.length_zipWith, lifted.1, List.length_take,
      List.length_drop, block.1]
    omega
  refine ⟨length, fun row mem => ?_⟩
  obtain ⟨i, inside, rfl⟩ := List.mem_iff_getElem.mp mem
  have hi : i < N := length ▸ inside
  rw [← List.getD_eq_getElem _ [] inside, liftTopLeft_rows block small lifted i]
  split_ifs with top
  · rw [List.length_append, List.length_drop, block_rowLength lifted top, block_rowLength block hi]
    omega
  · exact block_rowLength block hi

theorem cell_liftTopLeft (block : IsBlock N m) (small : n ≤ N)
    (lifted : IsBlock n (liftBlock n (corner n m))) (i k : Nat) :
    cell (liftTopLeft n m) i k =
      if i < n ∧ k < n then cell (liftBlock n (corner n m)) i k else cell m i k := by
  rw [cell, liftTopLeft_rows block small lifted i]
  by_cases top : i < n
  · have width := block_rowLength lifted top
    rw [if_pos top]
    split_ifs with inside
    · rw [List.getD_append _ _ _ _ (by omega)]
      rfl
    · rw [List.getD_append_right _ _ _ _ (by omega), width, List.getD_eq_getElem?_getD,
        List.getElem?_drop, Nat.add_sub_cancel' (by omega), ← List.getD_eq_getElem?_getD]
      rfl
  · rw [if_neg top, if_neg fun inside => top inside.1]
    rfl

end

/-! ### The three levels (R7) -/

section
variable {m : List (List Int)} (block : IsBlock 8 m)
include block

theorem levelOne_block : IsBlock 8 (liftBlock 8 m) := liftBlock_block (h := 4) block

theorem levelTwo_block : IsBlock 4 (liftBlock 4 (corner 4 (liftBlock 8 m))) :=
  liftBlock_block (h := 2) (corner_block (levelOne_block block) (by decide))

theorem levelThree_block :
    IsBlock 2 (liftBlock 2 (corner 2 (liftBlock 4 (corner 4 (liftBlock 8 m))))) :=
  liftBlock_block (h := 1) (corner_block (levelTwo_block block) (by decide))

theorem liftTopLeft_whole : liftTopLeft 8 m = liftBlock 8 m := by
  have lifted : IsBlock 8 (liftBlock 8 (corner 8 m)) := by
    rw [corner_self block]
    exact levelOne_block block
  refine block_ext (liftTopLeft_block block le_rfl lifted) (levelOne_block block)
    fun i k hi hk => ?_
  rw [cell_liftTopLeft block le_rfl lifted i k, if_pos ⟨hi, hk⟩, corner_self block]

/-- The array after two levels. -/
theorem twoLevels_block : IsBlock 8 (liftTopLeft 4 (liftBlock 8 m)) :=
  liftTopLeft_block (levelOne_block block) (by decide) (levelTwo_block block)

theorem twoLevels_corner :
    corner 2 (liftTopLeft 4 (liftBlock 8 m)) =
      corner 2 (liftBlock 4 (corner 4 (liftBlock 8 m))) := by
  refine block_ext (corner_block (twoLevels_block block) (by decide))
    (corner_block (levelTwo_block block) (by decide)) fun i k hi hk => ?_
  rw [cell_corner (twoLevels_block block) (by decide) hi hk,
    cell_corner (levelTwo_block block) (by decide) hi hk,
    cell_liftTopLeft (levelOne_block block) (by decide) (levelTwo_block block) i k,
    if_pos ⟨by omega, by omega⟩]

theorem transformTile_eq :
    transformTile m = liftTopLeft 2 (liftTopLeft 4 (liftBlock 8 m)) := by
  rw [transformTile, liftTopLeft_whole block]

theorem thirdLevel_block :
    IsBlock 2 (liftBlock 2 (corner 2 (liftTopLeft 4 (liftBlock 8 m)))) := by
  rw [twoLevels_corner block]
  exact levelThree_block block

theorem transformTile_block : IsBlock 8 (transformTile m) := by
  rw [transformTile_eq block]
  exact liftTopLeft_block (twoLevels_block block) (by decide) (thirdLevel_block block)

theorem cell_transformTile (i k : Nat) :
    cell (transformTile m) i k =
      if i < 2 ∧ k < 2 then
        cell (liftBlock 2 (corner 2 (liftBlock 4 (corner 4 (liftBlock 8 m))))) i k
      else if i < 4 ∧ k < 4 then cell (liftBlock 4 (corner 4 (liftBlock 8 m))) i k
      else cell (liftBlock 8 m) i k := by
  rw [transformTile_eq block,
    cell_liftTopLeft (twoLevels_block block) (by decide) (thirdLevel_block block) i k,
    twoLevels_corner block,
    cell_liftTopLeft (levelOne_block block) (by decide) (levelTwo_block block) i k]

end

/-! ### Quadrants (R9) -/

section
variable {α β : Type} {l : List α} {g : α → List β} {n : Nat} (width : ∀ a ∈ l, (g a).length = n)
include width

/-- Blocks of one length, one after another: their length. -/
theorem flatMap_length : (l.flatMap g).length = n * l.length := by
  rw [List.length_flatMap, List.map_congr_left width, List.map_const', List.sum_replicate,
    smul_eq_mul, Nat.mul_comm]

/-- Blocks of one length, one after another: a place in one of them. -/
theorem flatMap_getElem? {i k : Nat} (hk : k < n) :
    (l.flatMap g)[n * i + k]? = l[i]?.bind fun a => (g a)[k]? := by
  induction l generalizing i with
  | nil => simp
  | cons a l ih =>
    have first : (g a).length = n := width a (by simp)
    rw [List.flatMap_cons]
    cases i with
    | zero =>
      rw [Nat.mul_zero, Nat.zero_add, List.getElem?_append_left (by omega)]
      rfl
    | succ i =>
      rw [List.getElem?_append_right (by rw [Nat.mul_succ]; omega), first,
        show n * (i + 1) + k - n = n * i + k by rw [Nat.mul_succ]; omega,
        ih fun b mem => width b (by simp [mem])]
      rfl

end

section
variable {m : List (List Int)} (block : IsBlock 8 m) {row col n : Nat} (near : col + n ≤ 8)
include block near

theorem quadrant_width :
    ∀ r ∈ (m.drop row).take n, ((r.drop col).take n).length = n := fun r mem => by
  rw [List.length_take, List.length_drop, block.2 r (List.mem_of_mem_drop (List.mem_of_mem_take mem))]
  omega

variable (low : row + n ≤ 8)
include low

theorem quadrant_length : (quadrant m row col n).length = n * n := by
  rw [quadrant, flatMap_length (quadrant_width block near), List.length_take, List.length_drop,
    block.1, Nat.min_eq_left (by omega)]

theorem quadrant_getElem? {i k : Nat} (hi : i < n) (hk : k < n) :
    (quadrant m row col n)[n * i + k]? = some (cell m (row + i) (col + k)) := by
  have inside : row + i < m.length := by rw [block.1]; omega
  have place : col + k < (m[row + i]).length := by
    rw [block.2 _ (List.getElem_mem inside)]
    omega
  rw [quadrant, flatMap_getElem? (quadrant_width block near) hk, List.getElem?_take_of_lt hi,
    List.getElem?_drop, List.getElem?_eq_getElem inside, Option.bind_some,
    List.getElem?_take_of_lt hk, List.getElem?_drop, List.getElem?_eq_getElem place, cell,
    List.getD_eq_getElem m [] inside, List.getD_eq_getElem _ 0 place]

end

/-! ### The scan order (R9) -/

/-- The quadrants of the scan: where each begins, its row, its column and its size (R9). -/
def scanPlaces : List (Nat × Nat × Nat × Nat) :=
  [(0, 0, 0, 1), (1, 0, 1, 1), (2, 1, 0, 1), (3, 1, 1, 1), (4, 0, 2, 2), (8, 2, 0, 2), (12, 2, 2, 2),
    (16, 0, 4, 4), (32, 4, 0, 4), (48, 4, 4, 4)]

/-- The cells of HH3, HH2 and HH1 (R7). -/
abbrev onDiagonal (i k : Nat) : Prop :=
  (i = 1 ∧ k = 1) ∨ (2 ≤ i ∧ i < 4 ∧ 2 ≤ k ∧ k < 4) ∨ (4 ≤ i ∧ 4 ≤ k)

/-- Every scan position is in one quadrant: position 0 is the corner, and the diagonal positions are
the cells of the HH quadrants. -/
theorem scanPlaces_cover : ∀ n < 64, ∃ place ∈ scanPlaces, place.1 ≤ n ∧
    n - place.1 < place.2.2.2 * place.2.2.2 ∧ place.2.1 + place.2.2.2 ≤ 8 ∧
    place.2.2.1 + place.2.2.2 ≤ 8 ∧
    (n = 0 ↔ place.2.1 + (n - place.1) / place.2.2.2 = 0 ∧
      place.2.2.1 + (n - place.1) % place.2.2.2 = 0) ∧
    (isDiagonal n = true ↔ onDiagonal (place.2.1 + (n - place.1) / place.2.2.2)
      (place.2.2.1 + (n - place.1) % place.2.2.2)) := by
  decide

section
variable {m : List (List Int)} (block : IsBlock 8 m)
include block

/-- A quadrant that begins at a place of the scan. -/
theorem scan_quadrant {after : List Int} {start row col n : Nat}
    (here : (scan m).drop start = quadrant m row col n ++ after) (near : col + n ≤ 8)
    (low : row + n ≤ 8) {i k : Nat} (hi : i < n) (hk : k < n) :
    (scan m)[start + (n * i + k)]? = some (cell m (row + i) (col + k)) := by
  have inside : n * i + k < n * n := by
    calc n * i + k < n * i + n := Nat.add_lt_add_left hk _
      _ = n * (i + 1) := (Nat.mul_succ n i).symm
      _ ≤ n * n := Nat.mul_le_mul_left n hi
  rw [← List.getElem?_drop, here,
    List.getElem?_append_left (by rwa [quadrant_length block near low]),
    quadrant_getElem? block near low hi hk]

theorem scan_next {after : List Int} {start row col n next : Nat}
    (here : (scan m).drop start = quadrant m row col n ++ after) (near : col + n ≤ 8)
    (low : row + n ≤ 8) (stop : start + n * n = next) : (scan m).drop next = after := by
  rw [← stop, ← List.drop_drop, here, List.drop_left' (quadrant_length block near low)]

/-- Every quadrant stands at its place. -/
theorem scan_places : ∀ place ∈ scanPlaces, ∀ i k, i < place.2.2.2 → k < place.2.2.2 →
    (scan m)[place.1 + (place.2.2.2 * i + k)]? =
      some (cell m (place.2.1 + i) (place.2.2.1 + k)) := by
  have from0 : (scan m).drop 0 = quadrant m 0 0 1 ++ (quadrant m 0 1 1 ++ (quadrant m 1 0 1 ++
      (quadrant m 1 1 1 ++ (quadrant m 0 2 2 ++ (quadrant m 2 0 2 ++ (quadrant m 2 2 2 ++
        (quadrant m 0 4 4 ++ (quadrant m 4 0 4 ++ (quadrant m 4 4 4 ++ []))))))))) := by
    simp only [List.drop_zero, scan, List.append_assoc, List.append_nil]
  have from1 := scan_next block from0 (by decide) (by decide) (next := 1) rfl
  have from2 := scan_next block from1 (by decide) (by decide) (next := 2) rfl
  have from3 := scan_next block from2 (by decide) (by decide) (next := 3) rfl
  have from4 := scan_next block from3 (by decide) (by decide) (next := 4) rfl
  have from8 := scan_next block from4 (by decide) (by decide) (next := 8) rfl
  have from12 := scan_next block from8 (by decide) (by decide) (next := 12) rfl
  have from16 := scan_next block from12 (by decide) (by decide) (next := 16) rfl
  have from32 := scan_next block from16 (by decide) (by decide) (next := 32) rfl
  have from48 := scan_next block from32 (by decide) (by decide) (next := 48) rfl
  simp only [scanPlaces, List.forall_mem_cons, List.not_mem_nil, false_imp_iff, implies_true,
    and_true]
  exact ⟨fun _ _ => scan_quadrant block from0 (by decide) (by decide),
    fun _ _ => scan_quadrant block from1 (by decide) (by decide),
    fun _ _ => scan_quadrant block from2 (by decide) (by decide),
    fun _ _ => scan_quadrant block from3 (by decide) (by decide),
    fun _ _ => scan_quadrant block from4 (by decide) (by decide),
    fun _ _ => scan_quadrant block from8 (by decide) (by decide),
    fun _ _ => scan_quadrant block from12 (by decide) (by decide),
    fun _ _ => scan_quadrant block from16 (by decide) (by decide),
    fun _ _ => scan_quadrant block from32 (by decide) (by decide),
    fun _ _ => scan_quadrant block from48 (by decide) (by decide)⟩

theorem scan_length : (scan m).length = 64 := by
  simp only [scan, List.length_append]
  rw [quadrant_length block, quadrant_length block, quadrant_length block, quadrant_length block,
    quadrant_length block, quadrant_length block, quadrant_length block, quadrant_length block,
    quadrant_length block, quadrant_length block] <;> decide

/-- The cell a scan position holds (R9). -/
theorem scan_cell {n : Nat} {c : Int} (here : (scan m)[n]? = some c) :
    ∃ i k, i < 8 ∧ k < 8 ∧ c = cell m i k ∧ (n = 0 ↔ i = 0 ∧ k = 0) ∧
      (isDiagonal n = true ↔ onDiagonal i k) := by
  have inside : n < 64 := by
    rw [← scan_length block]
    exact (List.getElem?_eq_some_iff.mp here).1
  obtain ⟨⟨start, row, col, size⟩, place, low, high, near, far, first, diagonal⟩ :=
    scanPlaces_cover n inside
  dsimp only at low high near far first diagonal
  have hi : (n - start) / size < size := Nat.div_lt_of_lt_mul high
  have hk : (n - start) % size < size := Nat.mod_lt _ (Nat.zero_lt_of_lt hi)
  have cell_ := scan_places block _ place _ _ hi hk
  dsimp only at cell_
  rw [Nat.div_add_mod, Nat.add_sub_cancel' low, here] at cell_
  exact ⟨_, _, by omega, by omega, Option.some.inj cell_, first, diagonal⟩

end

end Sys2Proof.Laws
end

/-! ## A tile's coefficients, statistics and tone zone (R4, R8, R10, R11) -/

section
namespace Sys2Proof.Laws
open Sys2Proof.Machine

/-! ### Colour (R4) -/

theorem luma_eq_floor (p : Rgb) :
    p.luma = ⌊((p.r.toNat + 2 * p.g.toNat + p.b.toNat : Nat) : ℚ) / 4⌋ := by
  rw [Rgb.luma]
  exact (Rat.floor_intCast_div_natCast _ 4).symm

theorem luma_range (p : Rgb) : 0 ≤ p.luma ∧ p.luma ≤ 0 + (255 : Nat) := by
  have := p.r.isLt
  have := p.g.isLt
  have := p.b.isLt
  rw [Rgb.luma]
  omega

theorem chromaU_range (p : Rgb) : -255 ≤ p.chromaU ∧ p.chromaU ≤ -255 + (510 : Nat) := by
  have := p.g.isLt
  have := p.b.isLt
  rw [Rgb.chromaU]
  omega

theorem chromaV_range (p : Rgb) : -255 ≤ p.chromaV ∧ p.chromaV ≤ -255 + (510 : Nat) := by
  have := p.g.isLt
  have := p.r.isLt
  rw [Rgb.chromaV]
  omega

/-! ### One level: its quadrants and their ranges (R6, R8) -/

section
variable {h : Nat} {m : List (List Int)}

section
variable {lo : Int} {W : Nat}
  (range : ∀ i k, i < 2 * h → k < 2 * h → lo ≤ cell m i k ∧ cell m i k ≤ lo + W)
include range

theorem low_range {r k : Nat} (hr : r < 2 * h) (hk : k < h) :
    lo ≤ smooth (cell m r (2 * k)) (cell m r (2 * k + 1)) ∧
      smooth (cell m r (2 * k)) (cell m r (2 * k + 1)) ≤ lo + W := by
  obtain ⟨above, below⟩ := range r (2 * k) hr (by omega)
  obtain ⟨above', below'⟩ := range r (2 * k + 1) hr (by omega)
  exact ⟨le_smooth above above', smooth_le below below'⟩

theorem high_range {r k : Nat} (hr : r < 2 * h) (hk : k < h) :
    -W ≤ detail (cell m r (2 * k)) (cell m r (2 * k + 1)) ∧
      detail (cell m r (2 * k)) (cell m r (2 * k + 1)) ≤ W := by
  obtain ⟨above, below⟩ := range r (2 * k) hr (by omega)
  obtain ⟨above', below'⟩ := range r (2 * k + 1) hr (by omega)
  have wide := detail_mem_range above below above' below'
  rwa [add_sub_cancel_left] at wide

end

variable (block : IsBlock (2 * h) m)
include block

/-- The quadrants LL, HL, LH and HH of one level (R6). -/
theorem liftBlock_quadrants {i k : Nat} (hi : i < h) (hk : k < h) :
    let low (r : Nat) := smooth (cell m r (2 * k)) (cell m r (2 * k + 1))
    let high (r : Nat) := detail (cell m r (2 * k)) (cell m r (2 * k + 1))
    cell (liftBlock (2 * h) m) i k = smooth (low (2 * i)) (low (2 * i + 1)) ∧
    cell (liftBlock (2 * h) m) i (h + k) = smooth (high (2 * i)) (high (2 * i + 1)) ∧
    cell (liftBlock (2 * h) m) (h + i) k = detail (low (2 * i)) (low (2 * i + 1)) ∧
    cell (liftBlock (2 * h) m) (h + i) (h + k) = detail (high (2 * i)) (high (2 * i + 1)) := by
  intro low high
  have top : 2 * i < 2 * h := by omega
  have bottom : 2 * i + 1 < 2 * h := by omega
  rw [liftBlock_low block hi (by omega), liftBlock_low block hi (by omega),
    liftBlock_high block hi (by omega), liftBlock_high block hi (by omega),
    liftRows_low block top hk, liftRows_low block bottom hk,
    liftRows_high block top hk, liftRows_high block bottom hk]
  exact ⟨rfl, rfl, rfl, rfl⟩

section
variable {lo : Int} {W : Nat}
  (range : ∀ i k, i < 2 * h → k < 2 * h → lo ≤ cell m i k ∧ cell m i k ≤ lo + W)
include range

/-- LL keeps the range of the samples (R8). -/
theorem liftBlock_smooth_range {i k : Nat} (hi : i < h) (hk : k < h) :
    lo ≤ cell (liftBlock (2 * h) m) i k ∧ cell (liftBlock (2 * h) m) i k ≤ lo + W := by
  obtain ⟨above, below⟩ := low_range range (r := 2 * i) (by omega) hk
  obtain ⟨above', below'⟩ := low_range range (r := 2 * i + 1) (by omega) hk
  rw [(liftBlock_quadrants block hi hk).1]
  exact ⟨le_smooth above above', smooth_le below below'⟩

/-- HL and LH span the width of the samples' range, HH twice that (R8). -/
theorem liftBlock_detail_range {i k : Nat} (hi : i < 2 * h) (hk : k < 2 * h)
    (outside : ¬(i < h ∧ k < h)) :
    (cell (liftBlock (2 * h) m) i k).natAbs ≤ if h ≤ i ∧ h ≤ k then 2 * W else W := by
  have low {r c : Nat} := low_range range (r := r) (k := c)
  have high {r c : Nat} := high_range range (r := r) (k := c)
  rcases Nat.lt_or_ge i h with top | bottom
  · obtain ⟨c, rfl⟩ := Nat.exists_eq_add_of_le (show h ≤ k by omega)
    have quad := (liftBlock_quadrants block top (k := c) (by omega)).2.1
    obtain ⟨above, below⟩ := high (r := 2 * i) (c := c) (by omega) (by omega)
    obtain ⟨above', below'⟩ := high (r := 2 * i + 1) (c := c) (by omega) (by omega)
    have := le_smooth above above'
    have := smooth_le below below'
    rw [quad, if_neg (by omega)]
    dsimp only
    omega
  · obtain ⟨r, rfl⟩ := Nat.exists_eq_add_of_le bottom
    rcases Nat.lt_or_ge k h with left | right
    · have quad := (liftBlock_quadrants block (i := r) (by omega) left).2.2.1
      obtain ⟨above, below⟩ := low (r := 2 * r) (c := k) (by omega) left
      obtain ⟨above', below'⟩ := low (r := 2 * r + 1) (c := k) (by omega) left
      have := detail_mem_range above below above' below'
      rw [quad, if_neg (by omega)]
      dsimp only
      omega
    · obtain ⟨c, rfl⟩ := Nat.exists_eq_add_of_le right
      have quad := (liftBlock_quadrants block (i := r) (k := c) (by omega) (by omega)).2.2.2
      obtain ⟨above, below⟩ := high (r := 2 * r) (c := c) (by omega) (by omega)
      obtain ⟨above', below'⟩ := high (r := 2 * r + 1) (c := c) (by omega) (by omega)
      have := detail_mem_range above below above' below'
      rw [quad, if_pos ⟨by omega, by omega⟩]
      dsimp only
      omega

end
end

/-! ### Three levels: the ranges of the transform (R8) -/

section
variable {m : List (List Int)} {lo : Int} {W : Nat} (block : IsBlock 8 m)
  (range : ∀ i k, i < 8 → k < 8 → lo ≤ cell m i k ∧ cell m i k ≤ lo + W)
include block range

theorem levelTwo_input {i k : Nat} (hi : i < 4) (hk : k < 4) :
    lo ≤ cell (corner 4 (liftBlock 8 m)) i k ∧ cell (corner 4 (liftBlock 8 m)) i k ≤ lo + W := by
  rw [cell_corner (levelOne_block block) (by decide) hi hk]
  exact liftBlock_smooth_range (h := 4) block range hi hk

theorem levelThree_input {i k : Nat} (hi : i < 2) (hk : k < 2) :
    lo ≤ cell (corner 2 (liftBlock 4 (corner 4 (liftBlock 8 m)))) i k ∧
      cell (corner 2 (liftBlock 4 (corner 4 (liftBlock 8 m)))) i k ≤ lo + W := by
  rw [cell_corner (levelTwo_block block) (by decide) hi hk]
  exact liftBlock_smooth_range (h := 2) (corner_block (levelOne_block block) (by decide))
    (fun _ _ => levelTwo_input block range) hi hk

/-- The corner of the transform keeps the samples' range. -/
theorem transformTile_corner_range :
    lo ≤ cell (transformTile m) 0 0 ∧ cell (transformTile m) 0 0 ≤ lo + W := by
  rw [cell_transformTile block, if_pos ⟨by decide, by decide⟩]
  exact liftBlock_smooth_range (h := 1) (corner_block (levelTwo_block block) (by decide))
    (fun _ _ => levelThree_input block range) (by decide) (by decide)

/-- Every other cell is a detail of its level. -/
theorem transformTile_detail_range {i k : Nat} (hi : i < 8) (hk : k < 8)
    (other : ¬(i = 0 ∧ k = 0)) :
    (cell (transformTile m) i k).natAbs ≤ if onDiagonal i k then 2 * W else W := by
  rw [cell_transformTile block]
  by_cases third : i < 2 ∧ k < 2
  · rw [if_pos third]
    refine (liftBlock_detail_range (h := 1) (corner_block (levelTwo_block block) (by decide))
      (fun _ _ => levelThree_input block range) third.1 third.2 (by omega)).trans_eq
      (if_congr ?_ rfl rfl)
    unfold onDiagonal
    omega
  rw [if_neg third]
  by_cases second : i < 4 ∧ k < 4
  · rw [if_pos second]
    refine (liftBlock_detail_range (h := 2) (corner_block (levelOne_block block) (by decide))
      (fun _ _ => levelTwo_input block range) second.1 second.2 third).trans_eq
      (if_congr ?_ rfl rfl)
    unfold onDiagonal
    omega
  · rw [if_neg second]
    refine (liftBlock_detail_range (h := 4) block range hi hk second).trans_eq
      (if_congr ?_ rfl rfl)
    unfold onDiagonal
    omega

end

/-! ### The components of a tile -/

section
variable {tile : List (List Rgb)} (block : IsBlock 8 tile)
include block

theorem component_block (component : Rgb → Int) :
    IsBlock 8 (tile.map fun row => row.map component) := by
  refine ⟨by rw [List.length_map, block.1], fun row mem => ?_⟩
  obtain ⟨pixels, pixels_mem, rfl⟩ := List.mem_map.mp mem
  rw [List.length_map, block.2 pixels pixels_mem]

/-- A sample of a component is that of a pixel of the tile. -/
theorem cell_component (component : Rgb → Int) {i k : Nat} (hi : i < 8) (hk : k < 8) :
    ∃ p, cell (tile.map fun row => row.map component) i k = component p := by
  have row : i < tile.length := block.1.symm ▸ hi
  have col : k < tile[i].length := (block.2 _ (List.getElem_mem row)).symm ▸ hk
  refine ⟨tile[i][k], ?_⟩
  rw [cell, List.getD_eq_getElem _ [] (by simpa using row), List.getElem_map,
    List.getD_eq_getElem _ 0 (by simpa using col), List.getElem_map]

/-- A coefficient's range, from that of its component's samples (R8). -/
theorem coefficient_range {component : Rgb → Int} {lo : Int} {W : Nat}
    (range : ∀ p, lo ≤ component p ∧ component p ≤ lo + W) {n : Nat} {c : Int}
    (here : (coefficients component tile)[n]? = some c) :
    (n = 0 → lo ≤ c ∧ c ≤ lo + W) ∧
      (n ≠ 0 → c.natAbs ≤ if isDiagonal n then 2 * W else W) := by
  have samples : ∀ i k, i < 8 → k < 8 →
      lo ≤ cell (tile.map fun row => row.map component) i k ∧
        cell (tile.map fun row => row.map component) i k ≤ lo + W := fun i k hi hk => by
    obtain ⟨p, sample⟩ := cell_component block component hi hk
    rw [sample]
    exact range p
  have whole := component_block block component
  rw [coefficients] at here
  obtain ⟨i, k, hi, hk, value, first, diagonal⟩ := scan_cell (transformTile_block whole) here
  rw [value]
  constructor
  · intro start
    obtain ⟨row, col⟩ := first.mp start
    rw [row, col]
    exact transformTile_corner_range whole samples
  · intro later
    exact (transformTile_detail_range whole samples hi hk (mt first.mpr later)).trans_eq
      (if_congr diagonal.symm rfl rfl)

theorem coefficients_head (component : Rgb → Int) :
    (coefficients component tile)[0]? = some ((coefficients component tile).headD 0) := by
  have length := scan_length (transformTile_block (component_block block component))
  match shape : coefficients component tile with
  | [] =>
    rw [← coefficients, shape] at length
    cases length
  | c :: rest => rfl

end

/-- The statistics' DC values are the first coefficients (R10). -/
theorem tileStatistics_dc {tile : List (List Rgb)} (block : IsBlock 8 tile) :
    (coefficients Rgb.luma tile)[0]? = some (tileStatistics tile).dcY ∧
      (coefficients Rgb.chromaU tile)[0]? = some (tileStatistics tile).dcU ∧
      (coefficients Rgb.chromaV tile)[0]? = some (tileStatistics tile).dcV := by
  simp only [tileStatistics]
  exact ⟨coefficients_head block Rgb.luma, coefficients_head block Rgb.chromaU,
    coefficients_head block Rgb.chromaV⟩

/-! ### The span (R10) -/

section
variable (samples : List Int) (start : Int)

/-- The running maximum is one of the values, and none is above it. -/
theorem foldl_max_spec :
    samples.foldl max start ∈ start :: samples ∧
      ∀ x ∈ start :: samples, x ≤ samples.foldl max start := by
  induction samples generalizing start with
  | nil => simp
  | cons a samples ih =>
    obtain ⟨mem, above⟩ := ih (max start a)
    have top := above (max start a) (by simp)
    simp only [List.foldl_cons, List.mem_cons, forall_eq_or_imp] at mem above ⊢
    refine ⟨?_, (le_max_left _ _).trans top, (le_max_right _ _).trans top, above.2⟩
    rcases mem with same | later
    · rw [same]
      rcases max_choice start a with left | right
      · exact .inl left
      · exact .inr (.inl right)
    · exact .inr (.inr later)

/-- The running minimum is one of the values, and none is below it. -/
theorem foldl_min_spec :
    samples.foldl min start ∈ start :: samples ∧
      ∀ x ∈ start :: samples, samples.foldl min start ≤ x := by
  induction samples generalizing start with
  | nil => simp
  | cons a samples ih =>
    obtain ⟨mem, below⟩ := ih (min start a)
    have bottom := below (min start a) (by simp)
    simp only [List.foldl_cons, List.mem_cons, forall_eq_or_imp] at mem below ⊢
    refine ⟨?_, bottom.trans (min_le_left _ _), bottom.trans (min_le_right _ _), below.2⟩
    rcases mem with same | later
    · rw [same]
      rcases min_choice start a with left | right
      · exact .inl left
      · exact .inr (.inl right)
    · exact .inr (.inr later)

end

/-- The span is taken between a pixel of the largest luma and one of the smallest. -/
theorem spanOf_pixels {pixels : List Rgb} (some_ : pixels ≠ []) :
    ∃ low high : Rgb, low ∈ pixels ∧ high ∈ pixels ∧
      (∀ p ∈ pixels, low.luma ≤ p.luma ∧ p.luma ≤ high.luma) ∧
      spanOf (pixels.map Rgb.luma) = high.luma - low.luma := by
  match pixels, some_ with
  | first :: rest, _ =>
    have head : ((first :: rest).map Rgb.luma).headD 0 ∈ (first :: rest).map Rgb.luma := by simp
    obtain ⟨maxMem, above⟩ := foldl_max_spec ((first :: rest).map Rgb.luma)
      (((first :: rest).map Rgb.luma).headD 0)
    obtain ⟨minMem, below⟩ := foldl_min_spec ((first :: rest).map Rgb.luma)
      (((first :: rest).map Rgb.luma).headD 0)
    have drop {x : Int} (mem : x ∈ ((first :: rest).map Rgb.luma).headD 0 ::
        (first :: rest).map Rgb.luma) : x ∈ (first :: rest).map Rgb.luma :=
      (List.mem_cons.mp mem).elim (fun same => same ▸ head) id
    obtain ⟨high, highMem, highLuma⟩ := List.mem_map.mp (drop maxMem)
    obtain ⟨low, lowMem, lowLuma⟩ := List.mem_map.mp (drop minMem)
    refine ⟨low, high, lowMem, highMem, fun p mem => ?_, ?_⟩
    · rw [lowLuma, highLuma]
      have there := List.mem_cons_of_mem (((first :: rest).map Rgb.luma).headD 0)
        (List.mem_map_of_mem (f := Rgb.luma) mem)
      exact ⟨below _ there, above _ there⟩
    · rw [spanOf, lowLuma, highLuma]

theorem tile_nonempty {tile : List (List Rgb)} (block : IsBlock 8 tile) : tile.flatten ≠ [] := by
  intro empty
  have all := List.flatten_eq_nil_iff.mp empty
  match tile, block with
  | row :: rest, block =>
    have width := block.2 row (by simp)
    rw [all row (by simp)] at width
    cases width

/-! ### The zone (R11) -/

section
variable {p : Profile} {t : TileStatistics}

theorem zoneOf_bright (bright : (p.tHi : Int) ≤ t.dcY) :
    zoneOf p t = if (p.tSpan : Int) ≤ t.span then .brightDetail else .brightFlat := by
  rw [zoneOf]
  by_cases wide : (p.tSpan : Int) ≤ t.span
  · rw [if_pos ⟨bright, wide⟩, if_pos wide]
  · rw [if_neg fun both => wide both.2, if_pos ⟨bright, by omega⟩, if_neg wide]

theorem zoneOf_shadow (dim : t.dcY < (p.tHi : Int)) (dark : t.dcY ≤ (p.tLo : Int)) :
    zoneOf p t = .shadow := by
  rw [zoneOf, if_neg (by omega), if_neg (by omega), if_pos dark]

theorem zoneOf_middle (dim : t.dcY < (p.tHi : Int)) (light : (p.tLo : Int) < t.dcY) :
    zoneOf p t =
      if p.uLo ≤ t.dcU ∧ t.dcU ≤ p.uHi ∧ p.vLo ≤ t.dcV ∧ t.dcV ≤ p.vHi then .skin else .mid := by
  rw [zoneOf, if_neg (by omega), if_neg (by omega), if_neg (by omega)]

end

/-! ### The scan order of an array (R9) -/

section
variable {m : List (List Int)} (block : IsBlock 8 m)
include block

theorem scan_corner :
    (scan m)[0]? = some (cell m 0 0) ∧ (scan m)[1]? = some (cell m 0 1) ∧
      (scan m)[2]? = some (cell m 1 0) ∧ (scan m)[3]? = some (cell m 1 1) := by
  have place := scan_places block
  exact ⟨place (0, 0, 0, 1) (by decide) 0 0 one_pos one_pos,
    place (1, 0, 1, 1) (by decide) 0 0 one_pos one_pos,
    place (2, 1, 0, 1) (by decide) 0 0 one_pos one_pos,
    place (3, 1, 1, 1) (by decide) 0 0 one_pos one_pos⟩

theorem scan_second {i k : Nat} (hi : i < 2) (hk : k < 2) :
    (scan m)[4 + 2 * i + k]? = some (cell m i (2 + k)) ∧
      (scan m)[8 + 2 * i + k]? = some (cell m (2 + i) k) ∧
      (scan m)[12 + 2 * i + k]? = some (cell m (2 + i) (2 + k)) := by
  have hl := scan_places block (4, 0, 2, 2) (by decide) i k hi hk
  have lh := scan_places block (8, 2, 0, 2) (by decide) i k hi hk
  have hh := scan_places block (12, 2, 2, 2) (by decide) i k hi hk
  simp only [Nat.zero_add] at hl lh
  rw [Nat.add_assoc, Nat.add_assoc, Nat.add_assoc]
  exact ⟨hl, lh, hh⟩

theorem scan_first {i k : Nat} (hi : i < 4) (hk : k < 4) :
    (scan m)[16 + 4 * i + k]? = some (cell m i (4 + k)) ∧
      (scan m)[32 + 4 * i + k]? = some (cell m (4 + i) k) ∧
      (scan m)[48 + 4 * i + k]? = some (cell m (4 + i) (4 + k)) := by
  have hl := scan_places block (16, 0, 4, 4) (by decide) i k hi hk
  have lh := scan_places block (32, 4, 0, 4) (by decide) i k hi hk
  have hh := scan_places block (48, 4, 4, 4) (by decide) i k hi hk
  simp only [Nat.zero_add] at hl lh
  rw [Nat.add_assoc, Nat.add_assoc, Nat.add_assoc]
  exact ⟨hl, lh, hh⟩

end

/-! ### The tile's ranges (R8) -/

section
variable {tile : List (List Rgb)} (block : IsBlock 8 tile) {n : Nat} {c : Int}
include block

theorem luma_coefficient_range (here : (coefficients Rgb.luma tile)[n]? = some c) :
    (n = 0 → 0 ≤ c ∧ c ≤ 255) ∧ (c.natAbs ≤ if isDiagonal n then 510 else 255) := by
  obtain ⟨first, later⟩ := coefficient_range block luma_range here
  refine ⟨first, ?_⟩
  by_cases start : n = 0
  · subst start
    have := first rfl
    rw [if_neg (by decide)]
    omega
  · exact later start

theorem chroma_coefficient_range {component : Rgb → Int}
    (range : ∀ p, -255 ≤ component p ∧ component p ≤ -255 + (510 : Nat))
    (here : (coefficients component tile)[n]? = some c) :
    c.natAbs ≤ if n = 0 then 255 else if isDiagonal n then 1020 else 510 := by
  obtain ⟨first, later⟩ := coefficient_range block range here
  split_ifs with start diagonal
  · have := first start
    omega
  · exact (later start).trans_eq (if_pos diagonal)
  · exact (later start).trans_eq (if_neg diagonal)

end

/-- Settles O43: the transform read cell by cell (`liftBlock_quadrants`, `cell_transformTile`), the
quadrants of the scan (`scan_places`), and the ranges that each level hands on
(`liftBlock_smooth_range`, `liftBlock_detail_range`). -/
theorem toneZones : Obligations.ToneZones := by
  unfold Obligations.ToneZones
  refine ⟨fun p => ⟨luma_eq_floor p, rfl, rfl⟩,
    fun h m block => ⟨liftBlock_block block, fun i k hi hk => liftBlock_quadrants block hi hk⟩,
    fun m block => ⟨transformTile_block block, fun i k _ _ => cell_transformTile block i k⟩,
    fun m block => ⟨scan_length block, scan_corner block, fun i k => scan_second block,
      fun i k => scan_first block⟩,
    fun tile block => ?_,
    fun p t => ⟨?_, ?_, zoneOf_shadow, ?_, ?_⟩⟩
  · obtain ⟨dcY, dcU, dcV⟩ := tileStatistics_dc block
    refine ⟨fun _ => rfl, fun n c => ⟨luma_coefficient_range block, ?_⟩, dcY, dcU, dcV,
      spanOf_pixels (tile_nonempty block)⟩
    rintro (u | v)
    · exact chroma_coefficient_range block chromaU_range u
    · exact chroma_coefficient_range block chromaV_range v
  · intro bright wide
    rw [zoneOf_bright bright, if_pos wide]
  · intro bright narrow
    rw [zoneOf_bright bright, if_neg (by omega)]
  · intro dim light
    rw [zoneOf_middle dim light]
    exact ⟨fun inside => if_pos inside, fun outside => if_neg (by omega)⟩
  · rintro ⟨ordered, -, -⟩ dark
    exact zoneOf_shadow (by omega) dark

end Sys2Proof.Laws
end
